-- ==== Sys2Proof/Word.lean ====
section
/-! DEFINITION. The two word types of the cab link and the chain link: a byte and a 16-bit quantity (R184). -/

namespace Sys2Proof

/-- One byte of a frame, a stored record or a chain-link word. -/
abbrev Byte := BitVec 8

/-- A 16-bit quantity as a payload carries it (R184). -/
abbrev Half := BitVec 16

end Sys2Proof
end

