-- ==== Sys2Proof/Config.lean ====
section
/-! DEFINITION. The fixed numbers of the part: capacities, durations in microseconds, identity codes; and one free
value, the current that a driver senses where no command brings it. -/

namespace Sys2Proof.Config

/-- Vendor code, part code and part revision of IDENTIFY (R167). -/
def vendorCode : Nat := 5203
def partCode : Nat := 412
def partRevision : Nat := 1

/-- Capacities of the queues and tables (R99, R103, R116, R180, R181). -/
def replyCapacity : Nat := 4
def noticeCapacity : Nat := 16
def reportCapacity : Nat := 32
def functionMapCapacity : Nat := 96
def outputPointCapacity : Nat := 96
def reportMapCapacity : Nat := 64

/-- Sizes of the indexed stores (R44, R51, R97, R150). -/
def profileSlots : Nat := 24
def stepIndices : Nat := 512
def functionCodes : Nat := 128
def reportCodes : Nat := 128
def circuitCount : Nat := 10

/-- The step budget of one run (R71). -/
def stepBudget : Nat := 256

/-- Microseconds in a millisecond. -/
def ms : Nat := 1000

/-- Debounce lengths (R1, R2). -/
def presenceClosing : Nat := 200 * ms
def presenceOpening : Nat := 50 * ms
def lockDebounce : Nat := 50 * ms

/-- Enumerator waits (R14, R15). -/
def passThroughWait : Nat := 5 * ms
def busyWait : Nat := 10 * ms

/-- The engine's BUSY retry timer (R79) and the unit of WAIT and SCAN_PERIOD (R87, R120). -/
def busyRetry : Nat := 10 * ms
def tenMs : Nat := 10 * ms

/-- Break stages (R36) and the transaction limit (R32). -/
def breakLow : Nat := 2 * ms
def breakRecovery : Nat := 10 * ms
def transactionLimit : Nat := 20 * ms

/-- Lower-hold timer (R140), lamp check period (R156), probe pulse and judging time (R161, R156). -/
def lowerHold : Nat := 100 * ms
def lampPeriod : Nat := 250 * ms
def probePulse : Nat := 100 * ms
def judgeOnTime : Nat := 50 * ms

/-- The longest time between two bytes of a cab frame (R178). -/
def interByte : Nat := 1 * ms

/-- What the driver's current sense saturates at (R157). -/
def senseTop : Nat := 8191

/-- Free value (log entry 6): the current in mA that the driver of a circuit senses at the reading of that number, where a probe
is measured at once in an event whose command brings no current of that circuit (R157, R161). Nothing is known of it. -/
opaque driverCurrent (circuit reading : Nat) : Nat

/-- The SYNC byte and the largest payload length of a cab frame (R177). -/
def sync : Nat := 195
def maxPayload : Nat := 30

end Sys2Proof.Config
end

