-- ==== Sys2Proof/Syntax.lean ====
section
/-! DEFINITION. The commands of the part: one constructor of `Instr` for each row of spec/opcode_table.json, with the
operands the manual gives it. The table gives the rows no bits; a management request's operands are the fields of its
payload as carried (R185), an event's operands are what the event reports. -/

namespace Sys2Proof

/-- Thermal zones of the feed stage, in order of rising temperature (R132). -/
inductive Zone where
  | normal | warm | hot | trip
  deriving DecidableEq, Repr

/-- A word on the chain link: whether a start condition marks it, its eight data bits, its parity bit (R20, R187). -/
structure NodeWord where
  marked : Bool
  data : Byte
  parity : Bool
  deriving DecidableEq, Repr

/-- A profile record as LOAD_PROFILE carries it (R186, Table 10-5). -/
structure RawProfile where
  valid : Bool
  fallback : Bool
  typeCode : Half
  revLow : Byte
  revHigh : Byte
  firstStep : Half
  stepCount : Half
  deriving DecidableEq, Repr

/-- A step descriptor as LOAD_STEPS carries it: the eight bytes of Table 10-6 (R186). -/
structure RawStep where
  b0 : Byte
  b1 : Byte
  b2 : Byte
  b3 : Byte
  b4 : Byte
  b5 : Byte
  b6 : Byte
  b7 : Byte
  deriving DecidableEq, Repr

/-- Why a received cab frame is dropped (R178). -/
inductive FrameFinding where
  | badLength          -- the length byte is above 30
  | framingFault       -- a character without its stop bit
  | badCheck           -- the check is not the sum
  | wrongKind          -- check good, kind neither FUNCTION nor MGMT_REQUEST
  | wrongFunctionLength -- check good, FUNCTION with a length other than 2
  deriving DecidableEq, Repr

/-- The commands. -/
inductive Instr where
  /-- POWER_ON: the levels sampled at the two coupling inputs and the thermal zone sensed (R4, R133). -/
  | powerOn (contactClosed lockSensed : Bool) (zone : Zone)
  /-- PRESENCE_CONTACT_CHANGE: the raw contact's new level (R1). -/
  | presenceContactChange (closed : Bool)
  | presenceDebounceExpiry
  /-- LOCK_SENSE_CHANGE: the raw lock sense's new level (R2). -/
  | lockSenseChange (locked : Bool)
  | lockDebounceExpiry
  /-- FUNCTION: the two payload bytes (R96, R185). -/
  | function (code value : Byte)
  /-- CAB_FRAME_DROPPED: the finding, and the bytes of the frame that no CAB_BYTE_RECEIVED has brought (R178). -/
  | cabFrameDropped (finding : FrameFinding) (rest : List Byte)
  | interByteTimeout
  | requestDropped
  /-- BAD_REQUEST: none for a payload too short for tag and code, else its tag and code (R166). -/
  | badRequest (form : Option (Byte × Byte))
  | transmitFrameEnd
  | identify (tag : Byte)
  | getStatus (tag : Byte)
  | setParam (tag id : Byte) (value : Half)
  | getParam (tag id : Byte)
  | loadProfile (tag slot : Byte) (record : RawProfile)
  | clearProfile (tag slot : Byte)
  | loadSteps (tag : Byte) (first : Half) (descriptors : List RawStep)
  | readEntry (tag table : Byte) (index : Half)
  /-- BIND_FUNCTION: `place` is the circuit or the position, as the target kind says (R171, R185). -/
  | bindFunction (tag code kind place point mode : Byte) (param : Half) (cls : Byte) (nominal : Half)
  | unbindFunction (tag code kind place point : Byte)
  | bindReport (tag pos point code filter : Byte) (threshold : Half)
  | unbindReport (tag pos point : Byte)
  | enumerate (tag force : Byte)
  /-- START: slot 255 names none (R185). -/
  | start (tag pos slot : Byte)
  | hold (tag pos : Byte)
  | resume (tag pos : Byte)
  | abort (tag pos : Byte)
  | readContext (tag pos : Byte)
  | writeContext (tag pos field : Byte) (value : Half)
  | resetLink (tag : Byte)
  | restart (tag : Byte)
  | transactionEntersEndingStatus
  | answerWindowExpiry
  | transactionLimitExpiry
  /-- TRANSACTION_END: the node word that ends the transaction (R28 to R34). -/
  | transactionEnd (word : NodeWord)
  | quietGapExpiry
  | breakLowExpiry
  | breakRecoveryEnd
  | passThroughWaitExpiry
  | busyWaitExpiry
  /-- BUSY_RETRY_TIMER_EXPIRY and WAIT_TIMER_EXPIRY: the position whose timer expires (R79, R87). -/
  | busyRetryTimerExpiry (pos : Nat)
  | waitTimerExpiry (pos : Nat)
  | scanPeriodExpiry
  /-- THERMAL_ZONE_EVENT: the new zone (R132). -/
  | thermalZoneEvent (zone : Zone)
  | settleTimerExpiry
  | lowerHoldTimerExpiry
  /-- DRIVER_OVERCURRENT_TRIP: the circuit whose driver trips (R152). -/
  | driverOvercurrentTrip (circuit : Nat)
  /-- LAMP_CHECK_TIMER_EXPIRY: the currents in mA that the drivers of circuits 1..10 sense at the expiry (R157). -/
  | lampCheckTimerExpiry (currents : List Nat)
  /-- PROBE_PULSE_EXPIRY: the circuit, and the current in mA that its driver senses (R162). -/
  | probePulseExpiry (circuit current : Nat)
  /-- CAB_BYTE_RECEIVED: the character, and whether its stop bit was missing (R178). -/
  | cabByteReceived (byte : Byte) (framingFault : Bool)
  /-- NODE_WORD_RECEIVED: a word from the addressed node (R28 to R30). -/
  | nodeWordReceived (word : NodeWord)
  deriving DecidableEq, Repr

end Sys2Proof
end

