-- ==== Sys2Proof/WellFormed.lean ====
section
/-! DEFINITION. Which commands the outside world can send: the operands that no payload byte carries lie in the ranges the
manual gives them. -/

namespace Sys2Proof

/-- A position number 1..4. -/
def positionOk (p : Nat) : Bool := decide (1 ≤ p ∧ p ≤ 4)

/-- A circuit number 1..10. -/
def circuitOk (c : Nat) : Bool := decide (1 ≤ c ∧ c ≤ 10)

/-- A payload's length is at most 30 (R177), so a LOAD_STEPS carries at most three descriptors (R185) and a whole frame has at
most 35 bytes, all of which a CAB_FRAME_DROPPED may bring; a BAD_REQUEST
names a code the part does not know, or a known code with a wrong length, and the latter can be any code; timers and
drivers are named by a position or a circuit; a lamp check brings one current for each circuit. -/
def Instr.wellFormed : Instr → Bool
  | .loadSteps _ _ ds => decide (ds.length ≤ 3)
  | .cabFrameDropped _ rest => decide (rest.length ≤ 35)
  | .busyRetryTimerExpiry p => positionOk p
  | .waitTimerExpiry p => positionOk p
  | .driverOvercurrentTrip c => circuitOk c
  | .lampCheckTimerExpiry cs => decide (cs.length = 10)
  | .probePulseExpiry c _ => circuitOk c
  | .powerOn _ _ _ => true
  | .presenceContactChange _ => true
  | .presenceDebounceExpiry => true
  | .lockSenseChange _ => true
  | .lockDebounceExpiry => true
  | .function _ _ => true
  | .interByteTimeout => true
  | .requestDropped => true
  | .badRequest _ => true
  | .transmitFrameEnd => true
  | .identify _ => true
  | .getStatus _ => true
  | .setParam _ _ _ => true
  | .getParam _ _ => true
  | .loadProfile _ _ _ => true
  | .clearProfile _ _ => true
  | .readEntry _ _ _ => true
  | .bindFunction _ _ _ _ _ _ _ _ _ => true
  | .unbindFunction _ _ _ _ _ => true
  | .bindReport _ _ _ _ _ _ => true
  | .unbindReport _ _ _ => true
  | .enumerate _ _ => true
  | .start _ _ _ => true
  | .hold _ _ => true
  | .resume _ _ => true
  | .abort _ _ => true
  | .readContext _ _ => true
  | .writeContext _ _ _ _ => true
  | .resetLink _ => true
  | .restart _ => true
  | .transactionEntersEndingStatus => true
  | .answerWindowExpiry => true
  | .transactionLimitExpiry => true
  | .transactionEnd _ => true
  | .quietGapExpiry => true
  | .breakLowExpiry => true
  | .breakRecoveryEnd => true
  | .passThroughWaitExpiry => true
  | .busyWaitExpiry => true
  | .scanPeriodExpiry => true
  | .thermalZoneEvent _ => true
  | .settleTimerExpiry => true
  | .lowerHoldTimerExpiry => true
  | .cabByteReceived _ _ => true
  | .nodeWordReceived _ => true

end Sys2Proof
end

