-- ==== Sys2Proof/Decode.lean ====
section
/-! DEFINITION. Reading commands from bits. spec/opcode_table.json gives no row any bits, so `decodeTableWord` reads none.
Beside it: the byte conventions of R184, and the two directions between a management payload and its command (R166, R185,
R186). -/

namespace Sys2Proof

/-- The command that an opcode-table word spells: the table gives no row any bits (log entry 11). -/
def decodeTableWord (_nbits _w : Nat) : Option Instr := none

/-- A number as one byte, unused high bits dropped. -/
def byteOf (n : Nat) : Byte := BitVec.ofNat 8 n

/-- Least and most significant byte of a 16-bit quantity. -/
def loByte (h : Half) : Byte := h.setWidth 8
def hiByte (h : Half) : Byte := (h >>> 8).setWidth 8

/-- A 16-bit quantity is sent least significant byte first (R184). -/
def halfOf (lo hi : Byte) : Half := hi ++ lo

/-- A number as the two payload bytes of R184. -/
def twoBytes (n : Nat) : List Byte := [byteOf n, byteOf (n / 256)]

/-- A signed quantity is in two's complement (R184): its low byte, and its two payload bytes. -/
def signedByte (x : Int) : Byte := BitVec.ofInt 8 x
def signedTwoBytes (x : Int) : List Byte := [loByte (BitVec.ofInt 16 x), hiByte (BitVec.ofInt 16 x)]

/-- Bits `lo .. lo + len - 1` of a byte, as a number. -/
def bits (b : Byte) (lo len : Nat) : Nat := b.toNat / 2 ^ lo % 2 ^ len

/-- Bit `i` of a byte. -/
def bit (b : Byte) (i : Nat) : Bool := b.getLsbD i

/-- A Boolean as bit `i` of a byte under construction. -/
def bitAt (b : Bool) (i : Nat) : Nat := if b then 2 ^ i else 0

/-- A 5-bit field read as -16..+15 (R186). -/
def signedFive (n : Nat) : Int := if n < 16 then (n : Int) else (n : Int) - 32

/-- Profile record of nine bytes to its fields and back (Table 10-5). Unused bits are not examined (R184). -/
def RawProfile.flagByte (r : RawProfile) : Byte := byteOf (bitAt r.valid 0 + bitAt r.fallback 1)

def RawProfile.bytes (r : RawProfile) : List Byte :=
  [r.flagByte, loByte r.typeCode, hiByte r.typeCode, r.revLow, r.revHigh,
   loByte r.firstStep, hiByte r.firstStep, loByte r.stepCount, hiByte r.stepCount]

def RawStep.bytes (d : RawStep) : List Byte := [d.b0, d.b1, d.b2, d.b3, d.b4, d.b5, d.b6, d.b7]

/-- Descriptors of eight bytes each; none when the bytes are not a multiple of eight. -/
def rawSteps : List Byte → Option (List RawStep)
  | [] => some []
  | b0 :: b1 :: b2 :: b3 :: b4 :: b5 :: b6 :: b7 :: rest =>
    (rawSteps rest).map (fun ds => ⟨b0, b1, b2, b3, b4, b5, b6, b7⟩ :: ds)
  | _ => none

/-- The fields of a known request code to the command; none when the length is not the one the code requires
(Table 10-1). -/
def decodeFields (tag : Byte) (code : Nat) (fields : List Byte) : Option Instr :=
  match code with
  | 1 => match fields with
    | [] => some (.identify tag)
    | _ => none
  | 2 => match fields with
    | [] => some (.getStatus tag)
    | _ => none
  | 3 => match fields with
    | [id, lo, hi] => some (.setParam tag id (halfOf lo hi))
    | _ => none
  | 4 => match fields with
    | [id] => some (.getParam tag id)
    | _ => none
  | 5 => match fields with
    | [slot, fl, tl, th, rl, rh, fl2, fh2, cl, ch] =>
      some (.loadProfile tag slot ⟨bit fl 0, bit fl 1, halfOf tl th, rl, rh, halfOf fl2 fh2, halfOf cl ch⟩)
    | _ => none
  | 6 => match fields with
    | [slot] => some (.clearProfile tag slot)
    | _ => none
  | 7 => match fields with
    | lo :: hi :: rest => (rawSteps rest).map (.loadSteps tag (halfOf lo hi))
    | _ => none
  | 8 => match fields with
    | [table, lo, hi] => some (.readEntry tag table (halfOf lo hi))
    | _ => none
  | 9 => match fields with
    | [c, kind, place, point, mode, plo, phi, cls, nlo, nhi] =>
      some (.bindFunction tag c kind place point mode (halfOf plo phi) cls (halfOf nlo nhi))
    | _ => none
  | 10 => match fields with
    | [c, kind, place, point] => some (.unbindFunction tag c kind place point)
    | _ => none
  | 11 => match fields with
    | [pos, point, c, filter, lo, hi] => some (.bindReport tag pos point c filter (halfOf lo hi))
    | _ => none
  | 12 => match fields with
    | [pos, point] => some (.unbindReport tag pos point)
    | _ => none
  | 13 => match fields with
    | [force] => some (.enumerate tag force)
    | _ => none
  | 14 => match fields with
    | [pos, slot] => some (.start tag pos slot)
    | _ => none
  | 15 => match fields with
    | [pos] => some (.hold tag pos)
    | _ => none
  | 16 => match fields with
    | [pos] => some (.resume tag pos)
    | _ => none
  | 17 => match fields with
    | [pos] => some (.abort tag pos)
    | _ => none
  | 18 => match fields with
    | [pos] => some (.readContext tag pos)
    | _ => none
  | 19 => match fields with
    | [pos, field, lo, hi] => some (.writeContext tag pos field (halfOf lo hi))
    | _ => none
  | 20 => match fields with
    | [] => some (.resetLink tag)
    | _ => none
  | 21 => match fields with
    | [] => some (.restart tag)
    | _ => none
  | _ => none

/-- The command a MGMT_REQUEST payload carries; a payload of the wrong form is a BAD_REQUEST (R166, check 1). -/
def decodeRequest : List Byte → Instr
  | tag :: code :: fields => (decodeFields tag code.toNat fields).getD (.badRequest (some (tag, code)))
  | _ => .badRequest none

/-- The payload of a management request (R185); none for a command that is no request of Table 10-1. -/
def encodeRequest : Instr → Option (List Byte)
  | .identify tag => some [tag, 1]
  | .getStatus tag => some [tag, 2]
  | .setParam tag id v => some [tag, 3, id, loByte v, hiByte v]
  | .getParam tag id => some [tag, 4, id]
  | .loadProfile tag slot r => some ([tag, 5, slot] ++ r.bytes)
  | .clearProfile tag slot => some [tag, 6, slot]
  | .loadSteps tag first ds => some ([tag, 7, loByte first, hiByte first] ++ ds.flatMap RawStep.bytes)
  | .readEntry tag table i => some [tag, 8, table, loByte i, hiByte i]
  | .bindFunction tag c kind place point mode p cls n =>
    some [tag, 9, c, kind, place, point, mode, loByte p, hiByte p, cls, loByte n, hiByte n]
  | .unbindFunction tag c kind place point => some [tag, 10, c, kind, place, point]
  | .bindReport tag pos point c f t => some [tag, 11, pos, point, c, f, loByte t, hiByte t]
  | .unbindReport tag pos point => some [tag, 12, pos, point]
  | .enumerate tag force => some [tag, 13, force]
  | .start tag pos slot => some [tag, 14, pos, slot]
  | .hold tag pos => some [tag, 15, pos]
  | .resume tag pos => some [tag, 16, pos]
  | .abort tag pos => some [tag, 17, pos]
  | .readContext tag pos => some [tag, 18, pos]
  | .writeContext tag pos f v => some [tag, 19, pos, f, loByte v, hiByte v]
  | .resetLink tag => some [tag, 20]
  | .restart tag => some [tag, 21]
  | _ => none

end Sys2Proof
end

