-- ==== Sys2Proof/Machine/State.lean ====
section
/-! DEFINITION. The state of the part, block by block (00_scope.md 1.3), its value after power-on, and the reasons for which
a step can stop. Times are in microseconds of the model's clock `now` (log entry 2); a running timer is `some` of its
expiry. -/

namespace Sys2Proof.Machine

/-! ### Positions -/

/-- One value for each trailer position 1..4. -/
structure PerPos (α : Type) where
  p1 : α
  p2 : α
  p3 : α
  p4 : α
  deriving DecidableEq, Repr

/-! ### Names used by several blocks -/

/-- Position states (R61). -/
inductive PosState where
  | empty | identifying | waiting | unprofiled | bringingUp | held | ready | degraded | failed
  deriving DecidableEq, Repr

/-- Step phases (R72). -/
inductive StepPhase where
  | idle | awaitGrant | inLink | timer | feed | probe
  deriving DecidableEq, Repr

/-- Cause codes: causes of a PCR (R62), detach causes (R9) and halt causes (R5), in the order of Table 10-4. -/
inductive Cause where
  | identFailed | noNode | linkCheck | timeout | linkReset | nodeBusy | unitCheck | pointInvalid | length
  | tableFull | feedClamped | circuitFault | probeMismatch | stepLimit | badStep | aborted
  | uncoupled | reEnumerated | truncated | nodeLost | nodeStatus
  deriving DecidableEq, Repr

/-- Output classes (00_scope.md 1.5). -/
inductive OutClass where
  | safety | comfort
  deriving DecidableEq, Repr

/-- Mapping modes (R98). -/
inductive MapMode where
  | direct | invert | switch | scale
  deriving DecidableEq, Repr

/-- Report filters (R116); the threshold of CHANGE is kept as 0 beside it (R117). -/
inductive Filter where
  | change | delta
  deriving DecidableEq, Repr

/-- A node output point (p, a) (R98, R103). -/
structure PointKey where
  pos : Nat
  point : Nat
  deriving DecidableEq, Repr

/-! ### Coupling monitor (R1 to R4) -/

structure Coupling where
  rawPresence : Bool
  presence : Bool
  presenceTimer : Option Nat
  rawLock : Bool
  lock : Bool
  lockTimer : Option Nat
  deriving DecidableEq, Repr

/-! ### Chain enumerator (R5) -/

inductive EnumState where
  | idle | breaking | assigning | identifyingNode | checkingDownstream | closing | done | halted
  deriving DecidableEq, Repr

/-- The enumerator's own current transaction: none, awaiting grant, or granted under a serial number (R5). -/
inductive EnumRequest where
  | none
  | awaiting
  | granted (serial : Nat)
  deriving DecidableEq, Repr

structure Enumerator where
  state : EnumState
  occupancy : Nat
  miss : PerPos Nat
  cursor : Option Nat
  attempts : Nat
  request : EnumRequest
  breakRequested : Bool
  passWait : Option Nat
  busyWait : Option Nat
  pendingChecks : List Nat
  haltCause : Option Cause
  deriving DecidableEq, Repr

/-! ### Chain link controller (R27, R35, R36, R39) -/

/-- Kinds of transaction (R27). -/
inductive TxnKind where
  | read | write | sense | poll | assign
  deriving DecidableEq, Repr

/-- Phases of the transaction on the line (R27). -/
inductive LinkPhase where
  | select | echo | command | initialStatus | data | endingStatus
  deriving DecidableEq, Repr

/-- The five indications of an initial status (R29, R187). -/
structure InitialStatus where
  busy : Bool
  unitCheck : Bool
  pointInvalid : Bool
  attention : Bool
  downstreamChange : Bool
  deriving DecidableEq, Repr

/-- Completions of an ending status (R31). -/
inductive Completion where
  | complete | short | unitCheck
  deriving DecidableEq, Repr

structure EndingStatus where
  completion : Completion
  attention : Bool
  downstreamChange : Bool
  deriving DecidableEq, Repr

/-- A piece of the scanner's work (R122). -/
inductive ScanWork where
  | changeList (pos : Nat)
  | poll (pos : Nat)
  | initialRead (pos point : Nat)
  deriving DecidableEq, Repr

/-- Who asked for a transaction, and for the scanner what for (R27, R121). -/
inductive Requester where
  | enumerator
  | translator
  | scanner (work : ScanWork)
  | engine
  deriving DecidableEq, Repr

/-- A granted transaction: its contents are fixed at grant (R35). -/
structure Txn where
  serial : Nat
  requester : Requester
  address : Nat
  kind : TxnKind
  point : Nat
  count : Nat
  send : List Byte
  stale : Bool
  deriving DecidableEq, Repr

/-- The record of the transaction on the line (R27). -/
structure OnLine where
  txn : Txn
  phase : LinkPhase
  received : List Byte
  initial : Option InitialStatus
  ending : Option EndingStatus
  attention : Bool
  downstreamChange : Bool
  startedAt : Nat
  /-- When the answer window in force, or the part's own sending, ends (R28 to R31). -/
  windowEnd : Nat
  deriving DecidableEq, Repr

/-- Break states (R36), with the expiry of the stage. -/
inductive BreakState where
  | none
  | low (expiry : Nat)
  | recovery (expiry : Nat)
  deriving DecidableEq, Repr

structure Link where
  line : Option OnLine
  slot : Option Txn
  gap : Option Nat
  breakState : BreakState
  breakRequested : Bool
  rate : Nat
  lineCheckSeen : Bool
  stallSeen : Bool
  /-- The serial number the next granted transaction takes (log entry 13). -/
  nextSerial : Nat
  deriving DecidableEq, Repr

/-! ### Link arbiter (R42, R43) -/

structure Arbiter where
  pointer : Nat
  scanOverdue : Bool
  deriving DecidableEq, Repr

/-! ### Profile store and step store (R44, R51 to R57) -/

structure Profile where
  valid : Bool
  typeCode : Nat
  revLow : Nat
  revHigh : Nat
  firstStep : Nat
  stepCount : Nat
  fallback : Bool
  deriving DecidableEq, Repr

/-- Conditions of TEST (R57). -/
inductive TestCond where
  | zero | nonzero | below | above | equal
  deriving DecidableEq, Repr

structure StepFlags where
  chain : Bool
  critical : Bool
  suppress : Bool
  skip : Bool
  notify : Bool
  deriving DecidableEq, Repr

/-- The twelve step operations with their fields (R54 to R57). -/
inductive StepOp where
  | writePoint (point count : Nat) (fromV : Bool) (value : Nat)
  | readPoint (point count : Nat)
  | sense
  | bindOut (code point : Nat) (cls : OutClass) (nominal : Nat) (mode : MapMode) (param : Nat)
  | bindIn (point code : Nat) (filter : Filter) (threshold : Nat)
  | bindLoad (circuit nominal : Nat)
  | feedRequest (cls : Nat)
  | wait (duration : Nat)
  | lampProbe (circuit expected : Nat)
  | test (cond : TestCond) (operand : Nat) (disp : Int)
  | setCount (value : Int)
  | count (disp : Int)
  deriving DecidableEq, Repr

/-- A step store index holds EMPTY or a step (R51). -/
inductive Descriptor where
  | empty
  | step (flags : StepFlags) (op : StepOp)
  deriving DecidableEq, Repr

/-! ### Bring-up engine (R61) -/

/-- The identity handed by the enumerator (R12). -/
structure Identity where
  typeCode : Nat
  revision : Nat
  pointCount : Nat
  deriving DecidableEq, Repr

/-- Position Control Record. The feed request of R61 is kept once, with the feed manager. -/
structure Pcr where
  state : PosState
  identity : Option Identity
  profileSlot : Option Nat
  stepIndex : Option Nat
  phase : StepPhase
  executed : Nat
  v : Nat
  x : Int
  attempts : Nat
  busyRetries : Nat
  residual : Nat
  lastInitial : Option InitialStatus
  lastEnding : Option Completion
  sense : List Byte
  cause : Option Cause
  degraded : Bool
  holdPending : Bool
  awaited : Option Nat
  senseInProgress : Bool
  waitTimer : Option Nat
  busyTimer : Option Nat
  deriving DecidableEq, Repr

/-! ### Function translator (R98, R103, R109) -/

/-- Targets of a Function Map entry (R98). -/
inductive Target where
  | circuit (c : Nat)
  | point (key : PointKey)
  deriving DecidableEq, Repr

structure MapEntry where
  code : Nat
  target : Target
  mode : MapMode
  param : Nat
  owner : Nat
  deriving DecidableEq, Repr

inductive WriteState where
  | idle | queued | inFlight
  deriving DecidableEq, Repr

/-- Output point record (R103). -/
structure OutRec where
  key : PointKey
  cls : OutClass
  nominal : Nat
  requested : Nat
  applied : Nat
  accepted : Option Nat
  faulted : Bool
  retiring : Bool
  write : WriteState
  inFlight : Option Nat
  deriving DecidableEq, Repr

/-- The translator's four collections. The Output Point Table is kept in the order of its points (log entry 5), the Output
Write Queue in the order of the records' time of joining, both classes together (R110). -/
structure Translator where
  values : List Nat
  map : List MapEntry
  points : List OutRec
  queue : List PointKey
  deriving DecidableEq, Repr

/-! ### Report scanner (R116, R119, R121) -/

structure ReportEntry where
  key : PointKey
  code : Nat
  filter : Filter
  threshold : Nat
  last : Option Nat
  owner : Nat
  deriving DecidableEq, Repr

structure InitialKey where
  key : PointKey
  tried : Bool
  deriving DecidableEq, Repr

/-- A granted transaction of the scanner whose outcome has not yet arrived (R121). -/
structure ScanOutstanding where
  serial : Nat
  work : ScanWork
  deriving DecidableEq, Repr

structure Scanner where
  map : List ReportEntry
  initialSet : List InitialKey
  round : Bool
  overdue : Bool
  pollList : List Nat
  attention : List Nat
  request : Option ScanWork
  outstanding : List ScanOutstanding
  periodTimer : Nat
  deriving DecidableEq, Repr

/-! ### Feed manager (R133) -/

inductive Movement where
  | steady | settling | holding
  deriving DecidableEq, Repr

structure Feed where
  requests : PerPos Nat
  waiting : List Nat
  demand : Nat
  floor : Nat
  target : Nat
  limit : Nat
  budget : Nat
  movement : Movement
  settleTimer : Option Nat
  holdSet : List PointKey
  holdTimer : Option Nat
  zone : Zone
  shedding : Bool
  overBudget : Bool
  deriving DecidableEq, Repr

/-! ### Wired circuits and lamp check unit (R150, R154, R156) -/

inductive LampState where
  | unchecked | ok | outage | excess | shorted
  deriving DecidableEq, Repr

/-- A position that holds or waits for a probe, with its step's expected current (R160). -/
structure Probe where
  pos : Nat
  expected : Nat
  deriving DecidableEq, Repr

/-- Circuit record. The on-time of R150 is the time since `onSince` while the output is on, 0 while it is off. -/
structure Circuit where
  requested : Bool
  output : Bool
  onSince : Nat
  lamp : LampState
  low : Nat
  high : Nat
  inn : Nat
  deviation : Nat
  holder : Option Probe
  waiters : List Probe
  pulse : Option Nat
  deriving DecidableEq, Repr

structure LoadEntry where
  pos : Nat
  circuit : Nat
  nominal : Nat
  deriving DecidableEq, Repr

/-- `sensed` holds the current that each driver was last told to sense, an input of the part; `readings` numbers the
measurements made at once, and is the model's own (R157, R161, log entry 6). -/
structure Lamps where
  circuits : List Circuit
  roll : List LoadEntry
  checkTimer : Nat
  sensed : List Nat
  readings : Nat
  deriving DecidableEq, Repr

/-! ### Cab port (R177 to R183) -/

/-- Result codes (R165). -/
inductive Result where
  | ok | badRequest | badValue | inUse | wrongState | notPresent | notFound | tableFull
  deriving DecidableEq, Repr

/-- A MGMT_REPLY (R185). -/
structure Reply where
  tag : Byte
  code : Byte
  result : Result
  data : List Byte
  deriving DecidableEq, Repr

inductive CouplingEvent where
  | connect | disconnect | lock | unlock
  deriving DecidableEq, Repr

/-- The notices of 09_management_requests.md 9.7. -/
inductive Notice where
  | coupling (event : CouplingEvent)
  | position (pos : Nat) (state : PosState) (cause : Option Cause)
  | progress (pos index : Nat)
  | circuit (c : Nat) (lamp : LampState) (deviation : Nat)
  | feed (limit budget : Nat) (shedding overBudget : Bool)
  | chainTooLong
  | chainHalted (cause : Cause)
  deriving DecidableEq, Repr

/-- A Report Queue entry (R181). -/
structure Report where
  code : Nat
  pos : Nat
  value : Nat
  deriving DecidableEq, Repr

/-- The frame the transmitter is sending (R182). -/
inductive TxFrame where
  | reply (r : Reply)
  | notice (n : Notice)
  | report (r : Report)
  deriving DecidableEq, Repr

/-- The receiver is HUNTING while `gathered` is empty, else IN_FRAME with the bytes since the SYNC byte, it included (R178). -/
structure CabPort where
  gathered : List Byte
  byteLimit : Nat
  replies : List Reply
  notices : List Notice
  reports : List Report
  sending : Option TxFrame
  requestsDropped : Bool
  noticesLost : Bool
  reportsLost : Bool
  frameError : Bool
  deriving DecidableEq, Repr

/-! ### Management unit (R168) -/

structure Params where
  autoStart : Nat
  feedCap : Nat
  settleMs : Nat
  scanPeriod : Nat
  lampTol : Nat
  lampMin : Nat
  linkRate : Nat
  deriving DecidableEq, Repr

/-! ### What one event gathers (the model's own) -/

/-- Work of the engine within an event: begin the step at a position's step index, or act on a completion another block has
handed over, with V when it gives one and the fault when it is one (R71, R149, R152, R162). -/
inductive Job where
  | begin (pos : Nat)
  | complete (pos : Nat) (v : Option Nat) (fault : Option Cause)
  deriving DecidableEq, Repr

/-- A notice of the event: the engine's POSITION notices apart from the others, and the place of a detach's FEED notice
(R9, R63, log entries 7 and 8). -/
inductive EventNotice where
  | engine (pos : Nat) (n : Notice)
  | other (n : Notice)
  | feedPlace
  deriving DecidableEq, Repr

/-- The four values a FEED notice carries (R144). -/
structure FeedShown where
  limit : Nat
  budget : Nat
  shedding : Bool
  overBudget : Bool
  deriving DecidableEq, Repr

/-- `told` holds the circuits whose driver's current the event's own command has brought (log entry 6). -/
structure EventWork where
  jobs : List Job
  notices : List EventNotice
  feedBefore : Option FeedShown
  told : List Nat
  deriving DecidableEq, Repr

/-! ### The whole state -/

/-- Every piece of state the manual gives the part, and the queue of waiting commands. -/
structure State where
  now : Nat
  coupling : Coupling
  enumerator : Enumerator
  link : Link
  arbiter : Arbiter
  profiles : List Profile
  steps : List Descriptor
  pcrs : PerPos Pcr
  translator : Translator
  scanner : Scanner
  feed : Feed
  lamps : Lamps
  cab : CabPort
  params : Params
  ev : EventWork
  pending : List Instr
  deriving DecidableEq, Repr

/-! ### Values after power-on -/

def PerPos.all (a : α) : PerPos α := ⟨a, a, a, a⟩

/-- R5. -/
def Enumerator.powerOn : Enumerator :=
  { state := .idle, occupancy := 0, miss := .all 0, cursor := none, attempts := 0, request := .none
    breakRequested := false, passWait := none, busyWait := none, pendingChecks := [], haltCause := none }

/-- R21, R39. -/
def Link.powerOn : Link :=
  { line := none, slot := none, gap := none, breakState := .none, breakRequested := false, rate := 2
    lineCheckSeen := false, stallSeen := false, nextSerial := 0 }

/-- R42, R43. -/
def Arbiter.powerOn : Arbiter := { pointer := 1, scanOverdue := false }

/-- R44. -/
def Profile.invalid : Profile :=
  { valid := false, typeCode := 0, revLow := 0, revHigh := 0, firstStep := 0, stepCount := 1, fallback := false }

/-- R61, the EMPTY column. -/
def Pcr.empty : Pcr :=
  { state := .empty, identity := none, profileSlot := none, stepIndex := none, phase := .idle, executed := 0
    v := 0, x := 0, attempts := 0, busyRetries := 0, residual := 0, lastInitial := none, lastEnding := none
    sense := [], cause := none, degraded := false, holdPending := false, awaited := none
    senseInProgress := false, waitTimer := none, busyTimer := none }

/-- R97, R99, R103, R109. -/
def Translator.powerOn : Translator :=
  { values := List.replicate Config.functionCodes 0, map := [], points := [], queue := [] }

/-- R168. -/
def Params.powerOn : Params :=
  { autoStart := 0, feedCap := 7, settleMs := 20, scanPeriod := 10, lampTol := 15, lampMin := 40, linkRate := 2 }

/-- R116, R119, R121; the period timer starts with SCAN_PERIOD (R120). -/
def Scanner.start (now period : Nat) : Scanner :=
  { map := [], initialSet := [], round := false, overdue := false, pollList := [], attention := [], request := none
    outstanding := [], periodTimer := now + period * Config.tenMs }

/-- R133, with the zone as sensed. -/
def Feed.start (zone : Zone) : Feed :=
  { requests := .all 0, waiting := [], demand := 0, floor := 0, target := 0, limit := 0, budget := 0
    movement := .steady, settleTimer := none, holdSet := [], holdTimer := none, zone := zone
    shedding := false, overBudget := false }

/-- R150. -/
def Circuit.off : Circuit :=
  { requested := false, output := false, onSince := 0, lamp := .unchecked, low := 0, high := 0, inn := 0
    deviation := 0, holder := none, waiters := [], pulse := none }

/-- R150, R154, R156: every circuit off, the roll empty, the check timer started afresh; the sensed currents are an
input, and the count of readings is the model's. -/
def Lamps.start (now : Nat) (sensed : List Nat) (readings : Nat) : Lamps :=
  { circuits := List.replicate Config.circuitCount Circuit.off, roll := [], checkTimer := now + Config.lampPeriod
    sensed := sensed, readings := readings }

/-- R183. -/
def CabPort.powerOn : CabPort :=
  { gathered := [], byteLimit := 0, replies := [], notices := [], reports := [], sending := none
    requestsDropped := false, noticesLost := false, reportsLost := false, frameError := false }

def EventWork.none : EventWork := { jobs := [], notices := [], feedBefore := .none, told := [] }

/-- R4: the debounced presence level starts at ABSENT, with the presence debounce running when the contact is sampled
closed; the debounced lock level starts at the sampled level. -/
def Coupling.sampled (now : Nat) (contactClosed lockSensed : Bool) : Coupling :=
  { rawPresence := contactClosed, presence := false
    presenceTimer := if contactClosed then some (now + Config.presenceClosing) else none
    rawLock := lockSensed, lock := lockSensed, lockTimer := none }

/-- Every block in its power-on state, for the sampled inputs, at a time of the clock, with what the drivers sense, the
model's count of readings and the commands that wait. -/
def State.powerOn (now : Nat) (contactClosed lockSensed : Bool) (zone : Zone) (sensed : List Nat)
    (readings : Nat) (pending : List Instr) : State :=
  { now := now
    coupling := Coupling.sampled now contactClosed lockSensed
    enumerator := Enumerator.powerOn
    link := Link.powerOn
    arbiter := Arbiter.powerOn
    profiles := List.replicate Config.profileSlots Profile.invalid
    steps := List.replicate Config.stepIndices Descriptor.empty
    pcrs := .all Pcr.empty
    translator := Translator.powerOn
    scanner := Scanner.start now Params.powerOn.scanPeriod
    feed := Feed.start zone
    lamps := Lamps.start now sensed readings
    cab := CabPort.powerOn
    params := Params.powerOn
    ev := EventWork.none
    pending := pending }

/-- The part right after reset: power-on with the contact open, the lock not sensed and the zone NORMAL (DESIGN CHOICE,
log entry 1), nothing sensed by the drivers and no reading made (log entry 6), time 0, no command waiting. -/
def State.reset : State :=
  State.powerOn 0 false false .normal (List.replicate Config.circuitCount 0) 0 []

/-! ### Reasons to stop -/

/-- Events that by the manual cannot arise in the state at hand. The part itself has no fault that stops it; each of these
says that the outside world sent what it cannot send there. All are safe: the model stops where the part cannot be
(log entry 3). -/
inductive Fault where
  /-- An expiry of a timer, wait or break stage that is not running. Raised by the expiry commands. Safe. -/
  | timerNotRunning
  /-- A node word, an answer window expiry, a limit expiry or an entry to ENDING STATUS with no transaction on the line
  (R27). Safe. -/
  | lineIdle
  /-- TRANSACTION_END with a word that does not end the transaction: such a word is a NODE_WORD_RECEIVED. Safe. -/
  | wordDoesNotEnd
  /-- TRANSACTION_ENTERS_ENDING_STATUS while the data phase of the transaction is not over (R29, R30). Safe. -/
  | dataNotOver
  /-- TRANSMIT_FRAME_END while no frame is being sent (R182). Safe. -/
  | transmitterIdle
  /-- INTER_BYTE_TIMEOUT while the receiver hunts (R178). Safe. -/
  | receiverHunting
  /-- REQUEST_DROPPED while the Reply Queue has room (R179). Safe. -/
  | replyQueueHasRoom
  /-- DRIVER_OVERCURRENT_TRIP of a circuit whose output is off (08, 8.2). Safe. -/
  | driverOff
  /-- A command that names no position 1..4 or circuit 1..10. Safe. -/
  | noSuchUnit
  deriving DecidableEq, Repr

/-- Commands the model gives no meaning. -/
inductive Refusal where
  /-- The command has no meaning yet. Raised by `exec` alone; safe. No arm answers it. -/
  | notModelled (mnemonic : String)
  deriving DecidableEq, Repr

end Sys2Proof.Machine
end

