-- ==== Sys2Proof/Machine/Ops.lean ====
section
/-! DEFINITION. The named operations over the state that several blocks share: per-position and per-circuit access, ordered
lists, the clock, what an event gathers, the cab port's queues. -/

namespace Sys2Proof.Machine

/-! ### Ordered lists -/

/-- Insert in an ascending list without duplicates. -/
def insertAsc (n : Nat) : List Nat → List Nat
  | [] => [n]
  | m :: ms => if n < m then n :: m :: ms else if n = m then m :: ms else m :: insertAsc n ms

/-- Insert before the first element that `before` puts after the new one, so an ordered list stays ordered. -/
def insertBy (before : α → α → Bool) (a : α) : List α → List α
  | [] => [a]
  | b :: bs => if before a b then a :: b :: bs else b :: insertBy before a bs

/-- Replace the first element that satisfies `p` by its image. -/
def modifyFirst (p : α → Bool) (f : α → α) : List α → List α
  | [] => []
  | a :: as => if p a then f a :: as else a :: modifyFirst p f as

/-- Position first, then point (R99, R116, R154). -/
def PointKey.before (a b : PointKey) : Bool := decide (a.pos < b.pos ∨ (a.pos = b.pos ∧ a.point < b.point))

/-- The numbers `lo .. lo + n - 1`. -/
def upFrom (lo n : Nat) : List Nat := (List.range n).map (lo + ·)

/-! ### Positions -/

def PerPos.get (x : PerPos α) : Nat → α
  | 1 => x.p1
  | 2 => x.p2
  | 3 => x.p3
  | _ => x.p4

/-- Only positions 1..4 exist. -/
def PerPos.set (x : PerPos α) (p : Nat) (a : α) : PerPos α :=
  match p with
  | 1 => { x with p1 := a }
  | 2 => { x with p2 := a }
  | 3 => { x with p3 := a }
  | 4 => { x with p4 := a }
  | _ => x

def State.pcr (s : State) (p : Nat) : Pcr := s.pcrs.get p

def State.setPcr (s : State) (p : Nat) (x : Pcr) : State := { s with pcrs := s.pcrs.set p x }

def State.modifyPcr (s : State) (p : Nat) (f : Pcr → Pcr) : State := s.setPcr p (f (s.pcr p))

/-- The occupied positions are 1..k (R6). -/
def State.occupied (s : State) (p : Nat) : Bool := decide (1 ≤ p ∧ p ≤ s.enumerator.occupancy)

/-- The positions from j to k, ascending. -/
def positionsFromTo (j k : Nat) : List Nat := upFrom j (k + 1 - j)

def allPositions : List Nat := [1, 2, 3, 4]

def allCircuits : List Nat := [1, 2, 3, 4, 5, 6, 7, 8, 9, 10]

/-- A position is scanned while it is READY, DEGRADED, BRINGING_UP or HELD (R121). -/
def PosState.scanned : PosState → Bool
  | .ready => true
  | .degraded => true
  | .bringingUp => true
  | .held => true
  | .empty => false
  | .identifying => false
  | .waiting => false
  | .unprofiled => false
  | .failed => false

def State.scannedAt (s : State) (p : Nat) : Bool := s.occupied p && (s.pcr p).state.scanned

/-- A run is in progress or held (R60, R173). -/
def PosState.running : PosState → Bool
  | .bringingUp => true
  | .held => true
  | .empty => false
  | .identifying => false
  | .waiting => false
  | .unprofiled => false
  | .ready => false
  | .degraded => false
  | .failed => false

/-! ### Circuits, stores, clock -/

def State.circuit (s : State) (c : Nat) : Circuit := s.lamps.circuits.getD (c - 1) Circuit.off

def State.setCircuit (s : State) (c : Nat) (x : Circuit) : State :=
  { s with lamps := { s.lamps with circuits := s.lamps.circuits.set (c - 1) x } }

def State.profile (s : State) (slot : Nat) : Profile := s.profiles.getD slot Profile.invalid

def State.stepAt (s : State) (i : Nat) : Descriptor := s.steps.getD i Descriptor.empty

/-- The clock comes to a timer's expiry when its expiry is taken (log entry 2). -/
def State.elapse (s : State) (expiry : Nat) : State := { s with now := max s.now expiry }

/-! ### What an event gathers (log entries 7 and 8) -/

def State.hand (s : State) (j : Job) : State := { s with ev := { s.ev with jobs := s.ev.jobs ++ [j] } }

def State.handFirst (s : State) (j : Job) : State := { s with ev := { s.ev with jobs := j :: s.ev.jobs } }

def State.note (s : State) (n : Notice) : State :=
  { s with ev := { s.ev with notices := s.ev.notices ++ [.other n] } }

/-- An engine's notice of a higher position (R63). -/
def EventNotice.engineAfter (p : Nat) : EventNotice → EventNotice → Bool
  | _, .engine q _ => decide (p < q)
  | _, .other _ => false
  | _, .feedPlace => false

/-- The engine's POSITION notices of one event stand in ascending position order, those of one position in the order of its
states (R63); beside the enumerator's notices of a detach in the same event they stand as they come (log entry 38). -/
def State.noteEngine (s : State) (p : Nat) (n : Notice) : State :=
  { s with ev := { s.ev with
      notices := insertBy (EventNotice.engineAfter p) (.engine p n) s.ev.notices } }

def State.markFeedPlace (s : State) : State :=
  { s with ev := { s.ev with notices := s.ev.notices ++ [.feedPlace] } }

def Feed.shown (f : Feed) : FeedShown :=
  { limit := f.limit, budget := f.budget, shedding := f.shedding, overBudget := f.overBudget }

def FeedShown.notice (f : FeedShown) : Notice := .feed f.limit f.budget f.shedding f.overBudget

/-- An event begins: the feed values before it are kept for its FEED notice (R137, step 6). -/
def State.openEvent (s : State) : State :=
  { s with ev := { EventWork.none with feedBefore := some s.feed.shown } }

/-! ### The cab port's queues (R180 to R182) -/

/-- A notice placed while the Notice Queue holds 16 frames is discarded, and notices-lost is set (R180). -/
def CabPort.placeNotice (c : CabPort) (n : Notice) : CabPort :=
  if c.notices.length < Config.noticeCapacity then { c with notices := c.notices ++ [n] }
  else { c with noticesLost := true }

/-- A report for a held key replaces its value in place; a new key joins at the tail, or is discarded with reports-lost
set when 32 entries are held (R181). -/
def CabPort.placeReport (c : CabPort) (r : Report) : CabPort :=
  let same := fun (q : Report) => q.code == r.code && q.pos == r.pos
  if c.reports.any same then
    { c with reports := modifyFirst same (fun q => { q with value := r.value }) c.reports }
  else if c.reports.length < Config.reportCapacity then { c with reports := c.reports ++ [r] }
  else { c with reportsLost := true }

/-- The management unit places a reply; it executes a request only when the Reply Queue has room (R179, R180). -/
def CabPort.placeReply (c : CabPort) (r : Reply) : CabPort := { c with replies := c.replies ++ [r] }

/-- An idle transmitter takes the head of the Reply Queue, else of the Notice Queue, else of the Report Queue (R182). -/
def CabPort.take (c : CabPort) : CabPort :=
  match c.sending with
  | some _ => c
  | none =>
    match c.replies, c.notices, c.reports with
    | r :: rs, _, _ => { c with sending := some (.reply r), replies := rs }
    | [], n :: ns, _ => { c with sending := some (.notice n), notices := ns }
    | [], [], r :: rs => { c with sending := some (.report r), reports := rs }
    | [], [], [] => c

def State.modifyCab (s : State) (f : CabPort → CabPort) : State := { s with cab := f s.cab }

def State.placeReport (s : State) (r : Report) : State := s.modifyCab (·.placeReport r)

/-- The notices of an event in their order, the FEED notice at its place when one of the four values has changed (R9, R137
step 6, R144): where a detach left its place, else last. -/
def eventNotices (ns : List EventNotice) (feed : Option Notice) : List Notice :=
  let plain := fun (e : EventNotice) => match e with
    | .engine _ n => [n]
    | .other n => [n]
    | .feedPlace => []
  match feed with
  | none => ns.flatMap plain
  | some f =>
    let head := ns.takeWhile (· != .feedPlace)
    let tail := ns.dropWhile (· != .feedPlace)
    match tail with
    | [] => head.flatMap plain ++ [f]
    | _ :: rest => head.flatMap plain ++ [f] ++ rest.flatMap plain

/-- The FEED notice of the event, if one of the four values differs from its value before it (R137, step 6). -/
def State.feedNotice (s : State) : Option Notice :=
  match s.ev.feedBefore with
  | none => none
  | some before => if before = s.feed.shown then none else some s.feed.shown.notice

/-- An event ends: its notices are placed in the Notice Queue and nothing of it is left. -/
def State.placeNotices (s : State) : State :=
  { s with
    cab := (eventNotices s.ev.notices s.feedNotice).foldl CabPort.placeNotice s.cab
    ev := EventWork.none }

/-- An idle transmitter takes a frame as soon as any queue holds one (R182, log entry 9). -/
def State.transmit (s : State) : State := s.modifyCab CabPort.take

end Sys2Proof.Machine
end

