-- ==== Sys2Proof/Machine/Operands.lean ====
section
/-! DEFINITION. The operand forms: which field values the management requests and the step descriptors accept, and what the
accepted ones stand for (R45, R53, R58, R59, R168, R171, R172, R186). Structure is refused, quantities are clamped. -/

namespace Sys2Proof.Machine

/-- A quantity out of range becomes the nearest value in range (R59, R168). -/
def clamp (lo hi n : Nat) : Nat := max lo (min hi n)

def clampInt (lo hi n : Int) : Int := max lo (min hi n)

/-! ### Code values (Table 10-4) -/

def OutClass.ofCode : Nat → Option OutClass
  | 0 => some .safety
  | 1 => some .comfort
  | _ => none

def MapMode.ofCode : Nat → Option MapMode
  | 0 => some .direct
  | 1 => some .invert
  | 2 => some .switch
  | 3 => some .scale
  | _ => none

def Filter.ofCode : Nat → Option Filter
  | 0 => some .change
  | 1 => some .delta
  | _ => none

def TestCond.ofCode : Nat → Option TestCond
  | 0 => some .zero
  | 1 => some .nonzero
  | 2 => some .below
  | 3 => some .above
  | 4 => some .equal
  | _ => none

/-! ### Points, codes, targets -/

/-- An output point a bind or WRITE_POINT may name: odd and not 1 (R54, R58, R171). -/
def outputPointOk (a : Nat) : Bool := a % 2 == 1 && a != 1

/-- An input point a bind or READ_POINT may name: even and not 2 (R54, R58, R172). -/
def inputPointOk (a : Nat) : Bool := a % 2 == 0 && a != 2

/-- The target of BIND_FUNCTION and UNBIND_FUNCTION: kind 0 a circuit 1..10, kind 1 a point of a position 1..4; for a
circuit the point byte is ignored (R171, R185). -/
def readTarget (kind place point : Nat) : Option Target :=
  match kind with
  | 0 => if circuitOk place then some (.circuit place) else none
  | 1 => if positionOk place && outputPointOk point then some (.point ⟨place, point⟩) else none
  | _ => none

/-- The mapping parameter is used by SWITCH and SCALE only and otherwise stored as 0 (R59, R98, R171). -/
def mapParam (mode : MapMode) (n : Nat) : Nat :=
  match mode with
  | .direct => 0
  | .invert => 0
  | .switch => clamp 0 255 n
  | .scale => clamp 0 255 n

/-- A DELTA threshold of 0 is stored as 1, the threshold of CHANGE as 0 (R59, R117, R172). -/
def filterThreshold (f : Filter) (n : Nat) : Nat :=
  match f with
  | .change => 0
  | .delta => clamp 1 65535 n

/-! ### Step descriptors (R53, R58, R59, Table 10-6) -/

def stepFlags (d : RawStep) : StepFlags :=
  { chain := bit d.b1 0, critical := bit d.b1 1, suppress := bit d.b1 2, skip := bit d.b1 3, notify := bit d.b1 4 }

/-- The flags that R53 allows for each operation. CHAIN and NOTIFY may be set on every operation. -/
def StepOp.mayCritical : StepOp → Bool
  | .writePoint .. => true
  | .readPoint .. => true
  | .sense => true
  | .bindOut .. => true
  | .bindIn .. => true
  | .feedRequest .. => true
  | .lampProbe .. => true
  | .bindLoad .. => false
  | .wait .. => false
  | .test .. => false
  | .setCount .. => false
  | .count .. => false

def StepOp.maySuppress : StepOp → Bool
  | .writePoint .. => true
  | .readPoint .. => true
  | .feedRequest .. => true
  | .lampProbe .. => true
  | .sense => false
  | .bindOut .. => false
  | .bindIn .. => false
  | .bindLoad .. => false
  | .wait .. => false
  | .test .. => false
  | .setCount .. => false
  | .count .. => false

def StepOp.maySkip : StepOp → Bool
  | .readPoint .. => true
  | .writePoint .. => false
  | .sense => false
  | .bindOut .. => false
  | .bindIn .. => false
  | .bindLoad .. => false
  | .feedRequest .. => false
  | .wait .. => false
  | .lampProbe .. => false
  | .test .. => false
  | .setCount .. => false
  | .count .. => false

def StepFlags.allowedOn (f : StepFlags) (op : StepOp) : Bool :=
  (!f.critical || op.mayCritical) && (!f.suppress || op.maySuppress) && (!f.skip || op.maySkip)

/-- The operation a descriptor asks for, its quantities clamped and its unused fields 0 (R58, R59); none when the structure
is wrong. -/
def stepOp (d : RawStep) : Option StepOp :=
  let high := bits d.b0 4 4
  let wide := (halfOf d.b4 d.b5).toNat
  let disp := signedFive (bits d.b6 0 5)
  match bits d.b0 0 4 with
  | 1 =>
    let point := d.b2.toNat
    let count := bits d.b3 0 3 + 1
    if outputPointOk point && decide (count ≤ 2) then
      match high with
      | 0 => some (.writePoint point count false (if count = 1 then clamp 0 255 wide else wide))
      | 1 => some (.writePoint point count true 0)
      | _ => none
    else none
  | 2 => if inputPointOk d.b2.toNat then some (.readPoint d.b2.toNat (bits d.b3 0 3 + 1)) else none
  | 3 => some .sense
  | 4 =>
    match OutClass.ofCode high, MapMode.ofCode (bits d.b1 5 3) with
    | some cls, some mode =>
      if decide (d.b2.toNat < Config.functionCodes) && outputPointOk d.b3.toNat then
        some (.bindOut d.b2.toNat d.b3.toNat cls (clamp 0 4095 wide) mode
          (mapParam mode (halfOf d.b6 d.b7).toNat))
      else none
    | _, _ => none
  | 5 =>
    match Filter.ofCode high with
    | some f =>
      if inputPointOk d.b2.toNat && decide (d.b3.toNat < Config.reportCodes) then
        some (.bindIn d.b2.toNat d.b3.toNat f (filterThreshold f wide))
      else none
    | none => none
  | 6 => if circuitOk d.b2.toNat then some (.bindLoad d.b2.toNat (clamp 0 8191 wide)) else none
  | 7 => some (.feedRequest (clamp 0 7 d.b2.toNat))
  | 8 => some (.wait (clamp 1 255 d.b2.toNat))
  | 9 => if circuitOk d.b2.toNat then some (.lampProbe d.b2.toNat (clamp 0 8191 wide)) else none
  | 10 =>
    match TestCond.ofCode high with
    | some .zero => some (.test .zero 0 disp)
    | some .nonzero => some (.test .nonzero 0 disp)
    | some c => some (.test c wide disp)
    | none => none
  | 11 => some (.setCount d.b2.toInt)
  | 12 => some (.count disp)
  | _ => none

/-- A descriptor as LOAD_STEPS stores it; none when R58 refuses it. -/
def storedStep (d : RawStep) : Option Descriptor :=
  match stepOp d with
  | some op => if (stepFlags d).allowedOn op then some (.step (stepFlags d) op) else none
  | none => none

/-! ### Profile records (R45, Table 10-5) -/

/-- The structural check of LOAD_PROFILE: true when the request is refused with BAD_VALUE (R45, step 1). -/
def profileWrong (slot : Nat) (r : RawProfile) : Bool :=
  decide (Config.profileSlots ≤ slot) || decide (511 < r.firstStep.toNat) ||
  decide (r.stepCount.toNat = 0 ∨ 512 < r.stepCount.toNat) ||
  decide (512 < r.firstStep.toNat + r.stepCount.toNat) ||
  decide (r.revHigh.toNat < r.revLow.toNat) || (r.fallback && !r.valid)

def profileRecord (r : RawProfile) : Profile :=
  { valid := r.valid, typeCode := r.typeCode.toNat, revLow := r.revLow.toNat, revHigh := r.revHigh.toNat
    firstStep := r.firstStep.toNat, stepCount := r.stepCount.toNat, fallback := r.fallback }

/-! ### Parameters (R168) -/

/-- A parameter's range by its id; none for an unknown parameter. -/
def paramRange : Nat → Option (Nat × Nat)
  | 1 => some (0, 1)
  | 2 => some (0, 7)
  | 3 => some (1, 255)
  | 4 => some (2, 100)
  | 5 => some (0, 50)
  | 6 => some (10, 500)
  | 7 => some (1, 3)
  | _ => none

def Params.get (x : Params) : Nat → Option Nat
  | 1 => some x.autoStart
  | 2 => some x.feedCap
  | 3 => some x.settleMs
  | 4 => some x.scanPeriod
  | 5 => some x.lampTol
  | 6 => some x.lampMin
  | 7 => some x.linkRate
  | _ => none

def Params.set (x : Params) (id v : Nat) : Params :=
  match id with
  | 1 => { x with autoStart := v }
  | 2 => { x with feedCap := v }
  | 3 => { x with settleMs := v }
  | 4 => { x with scanPeriod := v }
  | 5 => { x with lampTol := v }
  | 6 => { x with lampMin := v }
  | 7 => { x with linkRate := v }
  | _ => x

end Sys2Proof.Machine
end

