-- ==== Sys2Proof/Machine/Flags.lean ====
section
/-! DEFINITION. Parity, status bytes and flag bytes: how indications are read from chain-link words and how flags are packed
in replies (R20, R31, R185, R187, Tables 10-2, 10-3, 10-7). -/

namespace Sys2Proof.Machine

/-- How many ones a byte holds. -/
def ones (b : Byte) : Nat := ((List.range 8).filter (fun i => bit b i)).length

/-- The nine bits of a word together hold an odd number of ones (R20). -/
def parityGood (w : NodeWord) : Bool := (ones w.data + (if w.parity then 1 else 0)) % 2 == 1

/-- A word as the part sends it: its data bits, the parity bit that makes the ones of the nine odd, and the start condition
that marks a select word (R20). -/
def formedWord (marked : Bool) (data : Byte) : NodeWord :=
  { marked := marked, data := data, parity := ones data % 2 == 0 }

/-- The select word: marked, the address in its data bits (R28, R187). -/
def selectWord (address : Nat) : NodeWord := formedWord true (byteOf address)

/-- A kind in bits 0 to 2 of a kind-and-count word (R187). -/
def TxnKind.code : TxnKind → Nat
  | .read => 1
  | .write => 2
  | .sense => 3
  | .poll => 4
  | .assign => 5

/-- The words of the command: for READ and WRITE the kind with count less 1 in bits 4 to 6, then the point; else one word,
carrying the kind (R29, R187). -/
def Txn.commandWords (t : Txn) : List NodeWord :=
  match t.kind with
  | .read => [formedWord false (byteOf (t.kind.code + (t.count - 1) * 16)), formedWord false (byteOf t.point)]
  | .write => [formedWord false (byteOf (t.kind.code + (t.count - 1) * 16)), formedWord false (byteOf t.point)]
  | .sense => [formedWord false (byteOf t.kind.code)]
  | .poll => [formedWord false (byteOf t.kind.code)]
  | .assign => [formedWord false (byteOf t.kind.code)]

/-- The data words that the part sends for a WRITE or ASSIGN, one for each byte, in order (R30, R187). -/
def Txn.dataWords (t : Txn) : List NodeWord := t.send.map (formedWord false)

/-- The initial status in a word's data bits; unused bits are not examined (Table 10-7, R184). -/
def InitialStatus.ofByte (b : Byte) : InitialStatus :=
  { busy := bit b 0, unitCheck := bit b 1, pointInvalid := bit b 2, attention := bit b 3, downstreamChange := bit b 4 }

def InitialStatus.byte (i : InitialStatus) : Byte :=
  byteOf (bitAt i.busy 0 + bitAt i.unitCheck 1 + bitAt i.pointInvalid 2 + bitAt i.attention 3
    + bitAt i.downstreamChange 4)

/-- "Go": none of BUSY, UNIT_CHECK and POINT_INVALID set (R29). -/
def InitialStatus.go (i : InitialStatus) : Bool := !i.busy && !i.unitCheck && !i.pointInvalid

/-- The completion in an ending status: exactly one of its three bits is set, else none (R31). -/
def Completion.ofByte (b : Byte) : Option Completion :=
  match bit b 0, bit b 1, bit b 2 with
  | true, false, false => some .complete
  | false, true, false => some .short
  | false, false, true => some .unitCheck
  | _, _, _ => none

def Completion.byte : Completion → Byte
  | .complete => 1
  | .short => 2
  | .unitCheck => 4

def EndingStatus.ofByte (b : Byte) : Option EndingStatus :=
  (Completion.ofByte b).map (fun c => { completion := c, attention := bit b 3, downstreamChange := bit b 4 })

/-- The write state's bits in the state byte of a function map entry (R185). -/
def WriteState.code : WriteState → Nat
  | .idle => 0
  | .queued => 1
  | .inFlight => 2

/-- The state byte of a function map entry with a point target (R185). -/
def OutRec.stateByte (r : OutRec) : Byte :=
  byteOf (bitAt r.faulted 0 + bitAt r.retiring 1 + bitAt r.accepted.isSome 2 + r.write.code * 8)

/-- Byte 25 of the READ_CONTEXT reply (Table 10-3). -/
def Pcr.flagByte (x : Pcr) : Byte :=
  byteOf (bitAt x.degraded 0 + bitAt x.holdPending 1 + bitAt x.identity.isSome 2 + bitAt x.profileSlot.isSome 3
    + bitAt x.stepIndex.isSome 4 + bitAt x.lastInitial.isSome 5 + bitAt x.lastEnding.isSome 6 + bitAt x.cause.isSome 7)

/-- Byte 6 of the GET_STATUS reply: presence and lock (Table 10-2). -/
def Coupling.byte (c : Coupling) : Byte := byteOf (bitAt c.presence 0 + bitAt c.lock 1)

/-- Byte 11 of the GET_STATUS reply and the last byte of a FEED notice: shedding and over-budget. -/
def feedFlags (shedding overBudget : Bool) : Byte := byteOf (bitAt shedding 0 + bitAt overBudget 1)

/-- Byte 22 of the GET_STATUS reply: the cab port's four flags and the two link flags (Table 10-2). -/
def statusFlags (c : CabPort) (l : Link) : Byte :=
  byteOf (bitAt c.requestsDropped 0 + bitAt c.noticesLost 1 + bitAt c.reportsLost 2 + bitAt c.frameError 3
    + bitAt l.lineCheckSeen 4 + bitAt l.stallSeen 5)

/-- GET_STATUS clears the four cab port flags and no other (R167, R183). -/
def CabPort.clearFlags (c : CabPort) : CabPort :=
  { c with requestsDropped := false, noticesLost := false, reportsLost := false, frameError := false }

end Sys2Proof.Machine
end

