-- ==== Sys2Proof/Machine/Formats.lean ====
section
/-! DEFINITION. What the body controller sees on the transmit pair: code values (Table 10-4), stored records (R186), reply
data (R185, Tables 10-2 and 10-3), notice and report payloads, and whole frames with their check (R177). -/

namespace Sys2Proof.Machine

/-! ### Code values (Table 10-4) -/

def Result.code : Result → Nat
  | .ok => 0
  | .badRequest => 1
  | .badValue => 2
  | .inUse => 3
  | .wrongState => 4
  | .notPresent => 5
  | .notFound => 6
  | .tableFull => 7

def PosState.code : PosState → Nat
  | .empty => 0
  | .identifying => 1
  | .waiting => 2
  | .unprofiled => 3
  | .bringingUp => 4
  | .held => 5
  | .ready => 6
  | .degraded => 7
  | .failed => 8

def EnumState.code : EnumState → Nat
  | .idle => 0
  | .breaking => 1
  | .assigning => 2
  | .identifyingNode => 3
  | .checkingDownstream => 4
  | .closing => 5
  | .done => 6
  | .halted => 7

def StepPhase.code : StepPhase → Nat
  | .idle => 0
  | .awaitGrant => 1
  | .inLink => 2
  | .timer => 3
  | .feed => 4
  | .probe => 5

def Cause.code : Cause → Nat
  | .identFailed => 1
  | .noNode => 2
  | .linkCheck => 3
  | .timeout => 4
  | .linkReset => 5
  | .nodeBusy => 6
  | .unitCheck => 7
  | .pointInvalid => 8
  | .length => 9
  | .tableFull => 10
  | .feedClamped => 11
  | .circuitFault => 12
  | .probeMismatch => 13
  | .stepLimit => 14
  | .badStep => 15
  | .aborted => 16
  | .uncoupled => 17
  | .reEnumerated => 18
  | .truncated => 19
  | .nodeLost => 20
  | .nodeStatus => 21

/-- An absent cause is sent as 0. -/
def causeCode : Option Cause → Nat
  | none => 0
  | some c => c.code

def LampState.code : LampState → Nat
  | .unchecked => 0
  | .ok => 1
  | .outage => 2
  | .excess => 3
  | .shorted => 4

def zoneCode : Zone → Nat
  | .normal => 0
  | .warm => 1
  | .hot => 2
  | .trip => 3

def OutClass.code : OutClass → Nat
  | .safety => 0
  | .comfort => 1

def MapMode.code : MapMode → Nat
  | .direct => 0
  | .invert => 1
  | .switch => 2
  | .scale => 3

def Filter.code : Filter → Nat
  | .change => 0
  | .delta => 1

def TestCond.code : TestCond → Nat
  | .zero => 0
  | .nonzero => 1
  | .below => 2
  | .above => 3
  | .equal => 4

def CouplingEvent.code : CouplingEvent → Nat
  | .connect => 1
  | .disconnect => 2
  | .lock => 3
  | .unlock => 4

/-! ### Stored records -/

/-- Profile record, nine bytes (Table 10-5). -/
def Profile.bytes (p : Profile) : List Byte :=
  [byteOf (bitAt p.valid 0 + bitAt p.fallback 1)] ++ twoBytes p.typeCode ++ [byteOf p.revLow, byteOf p.revHigh]
    ++ twoBytes p.firstStep ++ twoBytes p.stepCount

def StepFlags.bits (f : StepFlags) : Nat :=
  bitAt f.chain 0 + bitAt f.critical 1 + bitAt f.suppress 2 + bitAt f.skip 3 + bitAt f.notify 4

/-- A displacement in the low five bits of its byte. -/
def dispByte (d : Int) : Byte := byteOf ((signedByte d).toNat % 32)

/-- The eight bytes of an operation, the flags in byte 1 (Table 10-6); fields the operation does not use are 0. -/
def StepOp.bytes (flags : Nat) : StepOp → List Byte
  | .writePoint a n fromV v =>
    [byteOf (1 + bitAt fromV 4), byteOf flags, byteOf a, byteOf (n - 1)] ++ twoBytes v ++ [0, 0]
  | .readPoint a n => [2, byteOf flags, byteOf a, byteOf (n - 1), 0, 0, 0, 0]
  | .sense => [3, byteOf flags, 0, 0, 0, 0, 0, 0]
  | .bindOut code a cls n mode param =>
    [byteOf (4 + cls.code * 16), byteOf (flags + mode.code * 32), byteOf code, byteOf a] ++ twoBytes n
      ++ twoBytes param
  | .bindIn a code f t => [byteOf (5 + f.code * 16), byteOf flags, byteOf a, byteOf code] ++ twoBytes t ++ [0, 0]
  | .bindLoad c n => [6, byteOf flags, byteOf c, 0] ++ twoBytes n ++ [0, 0]
  | .feedRequest c => [7, byteOf flags, byteOf c, 0, 0, 0, 0, 0]
  | .wait d => [8, byteOf flags, byteOf d, 0, 0, 0, 0, 0]
  | .lampProbe c x => [9, byteOf flags, byteOf c, 0] ++ twoBytes x ++ [0, 0]
  | .test cond v d => [byteOf (10 + cond.code * 16), byteOf flags, 0, 0] ++ twoBytes v ++ [dispByte d, 0]
  | .setCount x => [11, byteOf flags, signedByte x, 0, 0, 0, 0, 0]
  | .count d => [12, byteOf flags, 0, 0, 0, 0, dispByte d, 0]

/-- Operation 0 is EMPTY (Table 10-6). -/
def Descriptor.bytes : Descriptor → List Byte
  | .empty => [0, 0, 0, 0, 0, 0, 0, 0]
  | .step f op => op.bytes f.bits

/-! ### Table entries as READ_ENTRY returns them (R170, R185) -/

/-- A function map entry, 14 bytes; for a circuit target the last seven are 0. -/
def MapEntry.bytes (e : MapEntry) (r : Option OutRec) : List Byte :=
  let tail := fun (kind place point : Nat) =>
    [byteOf e.code, byteOf kind, byteOf place, byteOf point, byteOf e.mode.code, byteOf e.param, byteOf e.owner]
  match e.target with
  | .circuit c => tail 0 c 0 ++ [0, 0, 0, 0, 0, 0, 0]
  | .point k => tail 1 k.pos k.point ++
    match r with
    | some r => [byteOf r.cls.code] ++ twoBytes r.nominal ++
        [byteOf r.requested, byteOf r.applied, byteOf (r.accepted.getD 0), r.stateByte]
    | none => [0, 0, 0, 0, 0, 0, 0]

/-- A report map entry, 10 bytes. -/
def ReportEntry.bytes (e : ReportEntry) : List Byte :=
  [byteOf e.key.pos, byteOf e.key.point, byteOf e.code, byteOf e.filter.code] ++ twoBytes e.threshold
    ++ twoBytes (e.last.getD 0) ++ [byteOf (bitAt e.last.isSome 0), byteOf e.owner]

/-- A load roll entry, 4 bytes. -/
def LoadEntry.bytes (e : LoadEntry) : List Byte := [byteOf e.pos, byteOf e.circuit] ++ twoBytes e.nominal

/-! ### Snapshots -/

/-- IDENTIFY reply data (R167, Table 10-1). -/
def identifyData : List Byte :=
  twoBytes Config.vendorCode ++ twoBytes Config.partCode ++ [byteOf Config.partRevision]

/-- GET_STATUS reply data, 23 bytes (Table 10-2). -/
def State.statusData (s : State) : List Byte :=
  [byteOf s.enumerator.occupancy] ++ allPositions.map (fun p => byteOf (s.pcr p).state.code) ++
  [byteOf s.enumerator.state.code, s.coupling.byte, byteOf s.feed.limit, byteOf s.feed.budget, byteOf s.feed.target,
   byteOf (zoneCode s.feed.zone), feedFlags s.feed.shedding s.feed.overBudget] ++
  allCircuits.map (fun c => byteOf (s.circuit c).lamp.code) ++ [statusFlags s.cab s.link]

/-- READ_CONTEXT reply data: 27 bytes, in EMPTY the state alone (R94, Table 10-3). -/
def State.contextData (s : State) (p : Nat) : List Byte :=
  let x := s.pcr p
  if x.state = .empty then [byteOf x.state.code]
  else
    [byteOf x.state.code]
    ++ twoBytes ((x.identity.map (·.typeCode)).getD 0)
    ++ [byteOf ((x.identity.map (·.revision)).getD 0), byteOf ((x.identity.map (·.pointCount)).getD 0)]
    ++ [byteOf (x.profileSlot.getD 0)] ++ twoBytes (x.stepIndex.getD 0) ++ [byteOf x.phase.code]
    ++ twoBytes x.executed ++ twoBytes x.v ++ [signedByte x.x, byteOf x.attempts, byteOf x.busyRetries,
      byteOf x.residual]
    ++ [(x.lastInitial.map (·.byte)).getD 0, (x.lastEnding.map (·.byte)).getD 0]
    ++ [byteOf x.sense.length] ++ (x.sense ++ [0, 0, 0, 0]).take 4
    ++ [byteOf (causeCode x.cause), x.flagByte, byteOf (s.feed.requests.get p)]

/-! ### Payloads and frames -/

/-- NOTICE payload: the kind, then its fields (R185). -/
def Notice.payload : Notice → List Byte
  | .coupling e => [1, byteOf e.code]
  | .position p st c => [2, byteOf p, byteOf st.code, byteOf (causeCode c)]
  | .progress p i => [3, byteOf p] ++ twoBytes i
  | .circuit c l d => [4, byteOf c, byteOf l.code] ++ twoBytes d
  | .feed l b sh ov => [5, byteOf l, byteOf b, feedFlags sh ov]
  | .chainTooLong => [6, 1, 0]
  | .chainHalted c => [6, 2, byteOf c.code]

/-- MGMT_REPLY payload (R185). -/
def Reply.payload (r : Reply) : List Byte := [r.tag, r.code, byteOf r.result.code] ++ r.data

/-- REPORT payload (R185). -/
def Report.payload (r : Report) : List Byte := [byteOf r.code, byteOf r.pos] ++ twoBytes r.value

/-- The sum of bytes (R177). -/
def byteSum (bs : List Byte) : Nat := (bs.map (·.toNat)).foldl (· + ·) 0

/-- A frame: SYNC, kind, length, payload, and the 16-bit check, high byte first (R177). -/
def frameBytes (kind : Nat) (payload : List Byte) : List Byte :=
  let body := [byteOf Config.sync, byteOf kind, byteOf payload.length] ++ payload
  body ++ [byteOf (byteSum body / 256), byteOf (byteSum body)]

/-- The bytes the transmitter sends for a frame it has taken (R182). -/
def TxFrame.bytes : TxFrame → List Byte
  | .reply r => frameBytes 3 r.payload
  | .notice n => frameBytes 4 n.payload
  | .report r => frameBytes 5 r.payload

end Sys2Proof.Machine
end

