-- ==== Sys2Proof/Machine/Lamps.lean ====
section
/-! DEFINITION. The lamp check unit: circuit outputs and short trips, the Load Roll, verdicts, probes (R150 to R163). -/

namespace Sys2Proof.Machine

/-! ### Outputs (R151) -/

/-- The on-time of R150: the time since the output last went ON, 0 while it is OFF. -/
def Circuit.onTime (x : Circuit) (now : Nat) : Nat := if x.output then now - x.onSince else 0

/-- Whenever the output goes from OFF to ON the on-time starts from 0; whenever it goes OFF it is held at 0; an output that
stays as it is keeps it (R151). -/
def Circuit.drive (x : Circuit) (now : Nat) (on : Bool) : Circuit :=
  match on, x.output with
  | true, true => x
  | true, false => { x with output := true, onSince := now }
  | false, _ => { x with output := false, onSince := 0 }

/-- Verdict counters 0 (R152, R153, R155). -/
def Circuit.clearCounters (x : Circuit) : Circuit := { x with low := 0, high := 0, inn := 0 }

/-- A handover of a requested state (R151); at OFF a SHORTED circuit clears its short (R153). -/
def Circuit.handover (x : Circuit) (now : Nat) (on : Bool) : Circuit :=
  let y := { x with requested := on }
  if x.lamp = .shorted then
    if on then y else { y.clearCounters with lamp := .unchecked, deviation := 0 }
  else if x.pulse.isSome then y
  else y.drive now on

/-- The translator hands over a requested state of circuit c (R151, R153). -/
def State.handover (s : State) (c : Nat) (on : Bool) : State :=
  let x := s.circuit c
  let s' := s.setCircuit c (x.handover s.now on)
  if x.lamp = .shorted ∧ on = false then s'.note (.circuit c .unchecked 0) else s'

/-! ### The Load Roll (R154, R155) -/

def LoadEntry.before (a b : LoadEntry) : Bool :=
  decide (a.pos < b.pos ∨ (a.pos = b.pos ∧ a.circuit < b.circuit))

/-- A change of the roll for circuit c resets c's judgement; a SHORTED circuit stays SHORTED (R155). -/
def Circuit.resetJudgement (x : Circuit) : Circuit :=
  if x.lamp = .shorted then x.clearCounters
  else { x.clearCounters with lamp := .unchecked, deviation := 0 }

def State.resetJudgement (s : State) (c : Nat) : State :=
  let x := s.circuit c
  let s' := s.setCircuit c x.resetJudgement
  if x.lamp = .shorted ∨ x.lamp = .unchecked then s' else s'.note (.circuit c .unchecked 0)

/-- BIND_LOAD of position p for circuit c: the entry is replaced or placed in its order, and c's judgement reset (R154). -/
def State.bindLoad (s : State) (p c nominal : Nat) : State :=
  let same := fun (e : LoadEntry) => e.pos == p && e.circuit == c
  let e : LoadEntry := ⟨p, c, nominal⟩
  let roll :=
    if s.lamps.roll.any same then modifyFirst same (fun _ => e) s.lamps.roll
    else insertBy LoadEntry.before e s.lamps.roll
  ({ s with lamps := { s.lamps with roll := roll } }).resetJudgement c

/-- The entries of some positions are removed and each circuit they were for is reset, in ascending circuit order (R155). -/
def State.removeLoads (s : State) (gone : Nat → Bool) : State :=
  let lost := s.lamps.roll.filter (fun e => gone e.pos)
  let s' := { s with lamps := { s.lamps with roll := s.lamps.roll.filter (fun e => !gone e.pos) } }
  (allCircuits.filter (fun c => lost.any (fun e => e.circuit == c))).foldl State.resetJudgement s'

/-- The sum of the nominal currents entered for circuit c by positions that `who` selects (R157, R162). -/
def State.entered (s : State) (c : Nat) (who : Nat → Bool) : Nat :=
  ((s.lamps.roll.filter (fun e => e.circuit == c && who e.pos)).map (·.nominal)).sum

/-! ### Measuring (R157, R162) -/

/-- What the driver of circuit c senses in the event: the current that the event's command has brought, else a free value
(R157, R161, log entry 6). -/
def State.driverSenses (s : State) (c : Nat) : Nat :=
  if s.ev.told.contains c then s.lamps.sensed.getD (c - 1) 0 else Config.driverCurrent c s.lamps.readings

/-- The measured current M: what the driver senses, a current above 8191 mA taken as 8191 (R157). -/
def State.measured (s : State) (c : Nat) : Nat := min Config.senseTop (s.driverSenses c)

/-- The event's command brings the currents that the drivers of some circuits sense (R156, R162, log entry 6). -/
def State.sense (s : State) (told currents : List Nat) : State :=
  { s with lamps := { s.lamps with sensed := currents }, ev := { s.ev with told := told } }

/-- A measurement made at once has taken its reading (R161, log entry 6). -/
def State.nextReading (s : State) : State := { s with lamps := { s.lamps with readings := s.lamps.readings + 1 } }

/-- The tolerance for an expected current: the greater of LAMP_MIN and (E × LAMP_TOL + 50) div 100 (R157, R162). -/
def Params.tolerance (x : Params) (expected : Nat) : Nat := max x.lampMin ((expected * x.lampTol + 50) / 100)

inductive Verdict where
  | low | high | inn
  deriving DecidableEq, Repr

/-- LOW below the window, HIGH above it, IN otherwise (R157, R162). -/
def judge (m expected tol : Nat) : Verdict :=
  if m < expected - tol then .low else if expected + tol < m then .high else .inn

/-! ### Verdicts (R156, R158, R159) -/

/-- A circuit is judged at an expiry when its output is ON, it has no probe holder, it is not SHORTED, and its on-time is
at least 50 ms (R156). -/
def Circuit.judged (x : Circuit) (now : Nat) : Bool :=
  x.output && x.holder.isNone && x.lamp != .shorted && decide (Config.judgeOnTime ≤ x.onTime now)

/-- The counters after a verdict (R158). -/
def Circuit.count (x : Circuit) : Verdict → Circuit
  | .low => { x with low := min 3 (x.low + 1), high := 0, inn := 0 }
  | .high => { x with low := 0, high := min 3 (x.high + 1), inn := 0 }
  | .inn => { x with low := 0, high := 0, inn := min 3 (x.inn + 1) }

/-- The lamp state after a verdict, from the state before it and the counters after it (R158). -/
def Circuit.nextLamp (before : LampState) (y : Circuit) : Verdict → LampState
  | .low => if y.low = 3 then .outage else before
  | .high => if y.high = 3 then .excess else before
  | .inn =>
    match before with
    | .unchecked => .ok
    | .ok => .ok
    | .outage => if y.inn = 3 then .ok else .outage
    | .excess => if y.inn = 3 then .ok else .excess
    | .shorted => .shorted

/-- The deviation on entry to a lamp state: the deficit of an OUTAGE, the surplus of an EXCESS, else 0 (R158, log
entry 14). -/
def deviationOf (l : LampState) (m expected : Nat) : Nat :=
  match l with
  | .outage => expected - m
  | .excess => m - expected
  | .unchecked => 0
  | .ok => 0
  | .shorted => 0

/-- One verdict of circuit c, with a CIRCUIT notice when the lamp state changes (R157 to R159). -/
def State.verdict (s : State) (c : Nat) : State :=
  let x := s.circuit c
  let m := s.measured c
  let e := s.entered c (fun _ => true)
  let v := judge m e (s.params.tolerance e)
  let y := x.count v
  let l := Circuit.nextLamp x.lamp y v
  if l = x.lamp then s.setCircuit c y
  else (s.setCircuit c { y with lamp := l, deviation := deviationOf l m e }).note (.circuit c l (deviationOf l m e))

/-- The verdicts of one expiry, in ascending circuit order (R156). -/
def State.lampCheck (s : State) : State :=
  allCircuits.foldl (fun s c => if (s.circuit c).judged s.now then s.verdict c else s) s

/-! ### Probes (R160 to R163) -/

/-- The probe is released: the holder cleared, the pulse idle, the output takes the requested state (R162, step 6). -/
def Circuit.release (x : Circuit) (now : Nat) : Circuit :=
  ({ x with holder := none, pulse := none }).drive now x.requested

/-- The share of position p on circuit c, and the probe's completion: a match is a success, a mismatch faults
PROBE_MISMATCH; V is the share either way (R162). -/
def State.probeShare (s : State) (c p : Nat) : Nat := s.measured c - s.entered c (fun q => q != p)

def State.probeResult (s : State) (c : Nat) (pr : Probe) : Job :=
  let share := s.probeShare c pr.pos
  .complete pr.pos (some share)
    (if judge share pr.expected (s.params.tolerance pr.expected) = .inn then none else some .probeMismatch)

/-- Measure for the holder of c, hand its completion to the engine and release the probe (R162, steps 1 to 6). -/
def State.measureProbe (s : State) (c : Nat) (pr : Probe) : State :=
  (s.hand (s.probeResult c pr)).setCircuit c ((s.circuit c).release s.now)

/-- The output has been ON for at least 50 ms, so a probe is measured at once (R161). -/
def Circuit.steady (x : Circuit) (now : Nat) : Bool :=
  x.output && decide (Config.judgeOnTime ≤ x.onTime now)

/-- Position `pr.pos` becomes the holder and its pulse starts; an output that is OFF is forced ON (R161). -/
def Circuit.pulseFor (x : Circuit) (now : Nat) (pr : Probe) : Circuit :=
  { (x.drive now true) with holder := some pr, pulse := some (now + Config.probePulse) }

/-- The positions in `ps` become the holder of c one after another while each is measured at once; the first that needs a
pulse holds the probe and the rest wait (R161, R162 step 7). -/
def serveProbes (c : Nat) : List Probe → State → State
  | [], s => s.setCircuit c { s.circuit c with waiters := [] }
  | pr :: rest, s =>
    if (s.circuit c).steady s.now then serveProbes c rest (s.measureProbe c pr).nextReading
    else s.setCircuit c { ((s.circuit c).pulseFor s.now pr) with waiters := rest }

/-- The probe of c is released and the first waiter, if any, takes over (R162 step 7, R163). -/
def State.releaseProbe (s : State) (c : Nat) : State :=
  let x := s.circuit c
  serveProbes c x.waiters (s.setCircuit c (x.release s.now))

/-- The probes of a circuit that are in progress or waiting: the holder's, then the waiters', first in first out (R150). -/
def Circuit.probes (x : Circuit) : List Probe := x.holder.toList ++ x.waiters

/-- A position 1..4 that neither holds nor awaits the circuit's probe may ask for it: R150 has the waiters without duplicates,
and R160 has no other position ask (log entry 19). -/
def Circuit.admits (x : Circuit) (p : Nat) : Bool := positionOk p && x.probes.all (fun w => w.pos != p)

/-- A LAMP_PROBE step of position p asks for a probe of c (R160). -/
def State.requestProbe (s : State) (c : Nat) (pr : Probe) : State :=
  let x := s.circuit c
  if x.lamp = .shorted then s.hand (.complete pr.pos none (some .circuitFault))
  else if x.admits pr.pos then
    if x.holder.isSome then s.setCircuit c { x with waiters := x.waiters ++ [pr] } else serveProbes c [pr] s
  else s

/-- The 100 ms pulse of c expires: the current is measured for the holder, and the waiters are served (R162). -/
def State.pulseEnds (s : State) (c : Nat) : State :=
  let x := s.circuit c
  match x.holder with
  | some pr => serveProbes c x.waiters (s.measureProbe c pr)
  | none => s.setCircuit c (x.release s.now)

/-- Holder `p` of circuit c, if it is the holder. -/
def Circuit.heldBy (x : Circuit) (gone : Nat → Bool) : Bool :=
  match x.holder with
  | some pr => gone pr.pos
  | none => false

def Circuit.dropWaiters (x : Circuit) (gone : Nat → Bool) : Circuit :=
  { x with waiters := x.waiters.filter (fun w => !gone w.pos) }

/-- The run of position p is aborted: it leaves every waiter list, and a probe it holds is released (R163). -/
def State.abandonProbes (s : State) (p : Nat) : State :=
  let gone := fun q => q == p
  let s' := allCircuits.foldl (fun s c => s.setCircuit c ((s.circuit c).dropWaiters gone)) s
  allCircuits.foldl (fun s c => if (s.circuit c).heldBy gone then s.releaseProbe c else s) s'

/-- A detach reaches the lamp check unit: waiters leave, Load Roll entries go and their circuits are reset, then held
probes are released (R163). DESIGN CHOICE (log entry 35): several circuits' probes are released in ascending circuit order. -/
def State.detachLamps (s : State) (gone : Nat → Bool) : State :=
  let s' := allCircuits.foldl (fun s c => s.setCircuit c ((s.circuit c).dropWaiters gone)) s
  let s'' := s'.removeLoads gone
  allCircuits.foldl (fun s c => if (s.circuit c).heldBy gone then s.releaseProbe c else s) s''

/-- A driver overcurrent trip of c (R152). -/
def Circuit.tripped (x : Circuit) (now : Nat) : Circuit :=
  { (x.clearCounters.drive now false) with
    lamp := .shorted, deviation := 0, pulse := none, holder := none, waiters := [] }

def State.trip (s : State) (c : Nat) : State :=
  let x := s.circuit c
  let s' := (s.setCircuit c (x.tripped s.now)).note (.circuit c .shorted 0)
  x.probes.foldl (fun s pr => s.hand (.complete pr.pos none (some .circuitFault))) s'

end Sys2Proof.Machine
end

