-- ==== Sys2Proof/Machine/Outputs.lean ====
section
/-! DEFINITION. The Output Point Table's records and the Output Write Queue: membership, heads, retiring (R103 to R110). -/

namespace Sys2Proof.Machine

def State.findOut (s : State) (k : PointKey) : Option OutRec := s.translator.points.find? (fun r => r.key == k)

/-- Change the record of a point, if it has one. -/
def State.modifyOut (s : State) (k : PointKey) (f : OutRec → OutRec) : State :=
  { s with translator := { s.translator with points := modifyFirst (fun r => r.key == k) f s.translator.points } }

/-- The accepted duty is absent or 0 (R106). -/
def OutRec.offAtNode (r : OutRec) : Bool := r.accepted == none || r.accepted == some 0

/-- A retiring record is removed at once when its node's output is known off or was never written, unless a write of it is
granted; a faulted record that becomes retiring is removed whatever its accepted duty (R106). -/
def OutRec.gone (r : OutRec) : Bool := r.retiring && (r.faulted || (r.write != .inFlight && r.offAtNode))

/-- A record needs a write when it is not faulted and its applied duty differs from its accepted duty, an absent one
differing from every duty (R109); a retiring record that is off has gone before this is asked. -/
def OutRec.needsWrite (r : OutRec) : Bool :=
  !r.faulted && r.accepted != some r.applied && !(r.retiring && r.offAtNode)

/-- What an evaluation of one record does to its write state (R109). -/
def OutRec.evaluated (r : OutRec) : OutRec :=
  match r.write, r.needsWrite with
  | .idle, true => { r with write := .queued }
  | .queued, false => { r with write := .idle }
  | .idle, false => r
  | .queued, true => r
  | .inFlight, _ => r

/-- A record's place in the queue after its evaluation: a record that joins stands at the tail (R109, R110). -/
def queueAfter (r : OutRec) (queue : List PointKey) : List PointKey :=
  match r.write, r.needsWrite with
  | .idle, true => queue ++ [r.key]
  | .queued, false => queue.filter (· != r.key)
  | .idle, false => queue
  | .queued, true => queue
  | .inFlight, _ => queue

/-- Every record is evaluated, in the order of its point (log entry 5). -/
def evaluateAll : List OutRec → List PointKey → List OutRec × List PointKey
  | [], queue => ([], queue)
  | r :: rs, queue =>
    if r.gone then evaluateAll rs (queue.filter (· != r.key))
    else
      let (rs', queue') := evaluateAll rs (queueAfter r queue)
      (r.evaluated :: rs', queue')

def Translator.evaluate (t : Translator) : Translator :=
  let (points, queue) := evaluateAll t.points t.queue
  { t with points := points, queue := queue }

def State.evaluateOutputs (s : State) : State := { s with translator := s.translator.evaluate }

/-- The head of a class's part of the queue (R110). -/
def State.queueHead (s : State) (cls : OutClass) : Option OutRec :=
  (s.translator.queue.filterMap s.findOut).find? (fun r => r.cls == cls)

end Sys2Proof.Machine
end

