-- ==== Sys2Proof/Machine/Feed.lean ====
section
/-! DEFINITION. The feed manager: demand, target, movement of the classes, the load-budget arithmetic, waiting
FEED_REQUEST steps (R132 to R149). -/

namespace Sys2Proof.Machine

/-! ### Classes, limits, demand -/

/-- The budget of a feed class in mA (R132). -/
def classBudget : Nat → Nat
  | 0 => 0
  | 1 => 2000
  | 2 => 4000
  | 3 => 6000
  | 4 => 8000
  | 5 => 10000
  | 6 => 12500
  | _ => 15000

/-- What the feed stage does at a limit class: whether the feed is on, and the current it allows (R132). -/
def Feed.stage (f : Feed) : Bool × Nat := (decide (0 < f.limit), classBudget f.limit)

/-- The limit of a thermal zone (R136). -/
def zoneLimit : Zone → Nat
  | .normal => 7
  | .warm => 5
  | .hot => 2
  | .trip => 0

/-- ceil(n × d / 255): the current a record draws at a duty (R135, R145). -/
def drawn (nominal duty : Nat) : Nat := (nominal * duty + 254) / 255

/-- The demand of one class at requested duties: S for SAFETY (R135), C for COMFORT (R145). -/
def demandOf (cls : OutClass) (rs : List OutRec) : Nat :=
  ((rs.filter (fun r => r.cls == cls)).map (fun r => drawn r.nominal r.requested)).sum

/-- The smallest class whose budget is at least S; 7 when none is (R135). -/
def floorOf (demand : Nat) : Nat :=
  if demand = 0 then 0
  else if demand ≤ 2000 then 1
  else if demand ≤ 4000 then 2
  else if demand ≤ 6000 then 3
  else if demand ≤ 8000 then 4
  else if demand ≤ 10000 then 5
  else if demand ≤ 12500 then 6
  else 7

def greatest (x : PerPos Nat) : Nat := max (max x.p1 x.p2) (max x.p3 x.p4)

/-- target = min(max(greatest feed request, floor), FEED_CAP, zone limit) (R137). -/
def targetOf (greatestRequest floor feedCap : Nat) (zone : Zone) : Nat :=
  min (max greatestRequest floor) (min feedCap (zoneLimit zone))

def State.modifyFeed (s : State) (f : Feed → Feed) : State := { s with feed := f s.feed }

/-! ### The load-budget arithmetic (R145 to R147) -/

/-- A record's applied duty from S, C and B (R146). -/
def appliedDuty (sDemand cDemand budget : Nat) (r : OutRec) : Nat :=
  match r.cls with
  | .safety => r.requested
  | .comfort =>
    if sDemand + cDemand ≤ budget then r.requested
    else if sDemand ≤ budget then r.requested * (budget - sDemand) / cDemand
    else 0

/-- The applied duties of all records, and shedding and over-budget, from the records and L_b (R146, R147). -/
def State.applyBudget (s : State) : State :=
  let rs := s.translator.points
  let sd := demandOf .safety rs
  let cd := demandOf .comfort rs
  let b := classBudget s.feed.budget
  { s with
    translator := { s.translator with points := rs.map (fun r => { r with applied := appliedDuty sd cd b r }) }
    feed := { s.feed with shedding := decide (b < sd + cd), overBudget := decide (b < sd) } }

/-! ### The hold set (R140 to R142) -/

/-- A COMFORT record whose node may be drawing more than its new applied duty (R140, step 3). -/
def OutRec.overdrawn (r : OutRec) : Bool :=
  r.cls == .comfort &&
    (decide (r.applied < r.accepted.getD 0) || (r.write == .inFlight && decide (r.applied < r.inFlight.getD 0)))

/-- A record leaves the hold set when its node has taken a duty within its allowance, when it is faulted, or when it is
SAFETY (R141). DESIGN CHOICE (log entry 33): a record that was faulted already when a lower adds it leaves too, in the event
of the lower. -/
def OutRec.leavesHold (r : OutRec) : Bool :=
  r.faulted || r.cls == .safety || (r.write == .idle && decide (r.accepted.getD 0 ≤ r.applied))

/-- A record removed from the Output Point Table leaves the hold set too (R141). -/
def State.keepsHold (s : State) (k : PointKey) : Bool :=
  match s.findOut k with
  | some r => !r.leavesHold
  | none => false

/-- L_f follows L_b and the movement ends (R142). -/
def Feed.endHold (f : Feed) : Feed :=
  { f with holdSet := [], holdTimer := none, limit := f.budget, movement := .steady }

/-- The feed manager's check of the hold set: the records that may leave it leave it (R141). -/
def State.leaveHold (s : State) : State := s.modifyFeed (fun f => { f with holdSet := f.holdSet.filter s.keepsHold })

/-- The check, and in HOLDING the end of the hold where it leaves the set empty (R141, R142). -/
def State.checkHold (s : State) : State :=
  let s1 := s.leaveHold
  if s1.feed.movement = .holding ∧ s1.feed.holdSet = [] then s1.modifyFeed Feed.endHold else s1

/-- The arithmetic, and the translator's evaluation of every record whose applied duty was set (R148). The hold set is checked
as the duties are set, ahead of the evaluation: a record that the outcome of its write has made IDLE leaves the set there
when its accepted duty is within its allowance, though the evaluation queues it again (R112, R113, R141). -/
def State.arithmetic (s : State) : State := s.applyBudget.leaveHold.evaluateOutputs

/-! ### Moving the classes (R138 to R142) -/

/-- A target above L_b starts a raise (R138). -/
def State.raiseFeed (s : State) (target : Nat) : State :=
  s.modifyFeed (fun f => { f with
    limit := target, settleTimer := some (s.now + s.params.settleMs * Config.ms), movement := .settling })

/-- A target below L_b is taken by a lower (R140). -/
def State.lowerFeed (s : State) (target : Nat) : State :=
  let s1 := (s.modifyFeed (fun f => { f with budget := target })).arithmetic
  let cut := (s1.translator.points.filter (·.overdrawn)).map (·.key)
  let hs := s1.feed.holdSet ++ cut.filter (fun k => !s1.feed.holdSet.contains k)
  if hs = [] then
    s1.modifyFeed (fun f => { f with limit := target, holdTimer := none, movement := .steady })
  else
    s1.modifyFeed (fun f => { f with
      holdSet := hs, holdTimer := some (s.now + Config.lowerHold), movement := .holding })

/-- A change of the target held, by the movement state (the table of 07, 7.5). -/
def State.moveFeed (s : State) (target : Nat) : State :=
  let b := s.feed.budget
  match s.feed.movement with
  | .steady =>
    if b < target then s.raiseFeed target
    else if target < b then s.lowerFeed target
    else s
  | .settling =>
    if b < target then s
    else if target = b then
      s.modifyFeed (fun f => { f with settleTimer := none, limit := b, movement := .steady })
    else (s.modifyFeed (fun f => { f with settleTimer := none })).lowerFeed target
  | .holding =>
    if b < target then (s.modifyFeed (fun f => { f with holdSet := [], holdTimer := none })).raiseFeed target
    else if target < b then s.lowerFeed target
    else s

/-! ### Waiting FEED_REQUEST steps (R149) -/

/-- What an evaluation of a waiting step finds: granted, clamped, or nothing yet (R149). -/
inductive FeedFinding where
  | granted | clamped | waits
  deriving DecidableEq, Repr

def Feed.finding (f : Feed) (cls : Nat) : FeedFinding :=
  if cls ≤ f.budget then .granted
  else if f.movement = .settling then .waits
  else .clamped

/-- Evaluate the step of one waiting position; a completed step's position leaves the waiting steps and V becomes L_b. -/
def State.evaluateStep (s : State) (p : Nat) : State :=
  let done := fun (fault : Option Cause) =>
    (s.modifyFeed (fun f => { f with waiting := f.waiting.filter (· != p) })).hand
      (.complete p (some s.feed.budget) fault)
  match s.feed.finding (s.feed.requests.get p) with
  | .granted => done none
  | .clamped => done (some .feedClamped)
  | .waits => s

/-- The steps of the positions in the waiting steps, in ascending position order (R149). -/
def State.evaluateWaiting (s : State) : State := s.feed.waiting.foldl State.evaluateStep s

/-! ### The order of one feed manager event (R137) -/

/-- Steps 4 and 5 of R137, with the hold set checked as the arithmetic sets the applied duties (R141). -/
def State.feedTail (s : State) : State := s.arithmetic.checkHold.evaluateWaiting

/-- Steps 1 to 3 of R137. -/
def State.takeTarget (s : State) : State :=
  let sd := demandOf .safety s.translator.points
  let fl := floorOf sd
  let t := targetOf (greatest s.feed.requests) fl s.params.feedCap s.feed.zone
  let s1 := s.modifyFeed (fun f => { f with demand := sd, floor := fl })
  if t = s.feed.target then s1 else (s1.modifyFeed (fun f => { f with target := t })).moveFeed t

/-- A change of an input of the feed manager (R137); the FEED notice of step 6 is placed at the end of the event. DESIGN CHOICE
(log entry 37): where the last record leaves the hold set in the event of a target change, for which R142 calls either order
correct, the target change is taken first and the hold set is checked after it. -/
def State.feedChanged (s : State) : State := s.takeTarget.feedTail

/-- The position's feed request changes (R134). -/
def State.setRequest (s : State) (p cls : Nat) : State :=
  s.modifyFeed (fun f => { f with requests := f.requests.set p cls })

/-- A FEED_REQUEST step begins: the request is placed, the step joins the waiting steps, and the evaluation of this same
event completes it if it can (R88, R149). -/
def State.requestFeed (s : State) (p cls : Nat) : State :=
  ((s.setRequest p cls).modifyFeed (fun f => { f with waiting := insertAsc p f.waiting })).feedChanged

/-- The position's step is no longer evaluated (R70, R93, R149). -/
def State.abandonFeedStep (s : State) (p : Nat) : State :=
  s.modifyFeed (fun f => { f with waiting := f.waiting.filter (· != p) })

/-- A detach sets the positions' requests to 0 and abandons their steps (R134). -/
def State.detachFeed (s : State) (gone : Nat → Bool) : State :=
  (s.modifyFeed (fun f => { f with
    requests := allPositions.foldl (fun r p => if gone p then r.set p 0 else r) f.requests
    waiting := f.waiting.filter (fun p => !gone p) })).feedChanged

/-- The settle timer expires; T is the target held (R139). -/
def State.settleExpires (s : State) : State :=
  let t := s.feed.target
  let f := s.feed
  let s1 :=
    if t < f.limit then
      s.modifyFeed (fun f => { f with budget := t, limit := t, settleTimer := none, movement := .steady })
    else if t = f.limit then
      s.modifyFeed (fun f => { f with budget := t, settleTimer := none, movement := .steady })
    else
      s.modifyFeed (fun f => { f with
        budget := f.limit, limit := t
        settleTimer := some (s.now + s.params.settleMs * Config.ms), movement := .settling })
  s1.feedTail

/-- The lower-hold timer expires with records still in the hold set (R142). -/
def State.lowerHoldExpires (s : State) : State := (s.modifyFeed Feed.endHold).feedTail

/-- A zone event that enters TRIP (R143). -/
def Feed.trip (f : Feed) : Feed :=
  { f with zone := .trip, settleTimer := none, holdTimer := none, holdSet := [], limit := 0, budget := 0
           target := 0, movement := .steady }

/-- A zone event (R136, R137, R143). -/
def State.zoneEvent (s : State) (z : Zone) : State :=
  match z with
  | .trip => (s.modifyFeed Feed.trip).feedTail
  | .normal => (s.modifyFeed (fun f => { f with zone := .normal })).feedChanged
  | .warm => (s.modifyFeed (fun f => { f with zone := .warm })).feedChanged
  | .hot => (s.modifyFeed (fun f => { f with zone := .hot })).feedChanged

end Sys2Proof.Machine
end

