-- ==== Sys2Proof/Machine/Translator.lean ====
section
/-! DEFINITION. The function translator: function values, the Function Map, derivations, binds and removals, and what a
write's grant, outcome or return does to its record (R96 to R115). -/

namespace Sys2Proof.Machine

/-! ### Mapping and order (R98, R99) -/

/-- The mapped value of an entry from its code's value (R98). -/
def mapped (mode : MapMode) (param v : Nat) : Nat :=
  match mode with
  | .direct => v
  | .invert => 255 - v
  | .switch => if param ≤ v then 255 else 0
  | .scale => v * param / 255

def State.functionValue (s : State) (code : Nat) : Nat := s.translator.values.getD code 0

def State.mappedValue (s : State) (e : MapEntry) : Nat := mapped e.mode e.param (s.functionValue e.code)

/-- Circuits first, in circuit order, then points by position and point (R99). -/
def Target.before (a b : Target) : Bool :=
  match a, b with
  | .circuit c, .circuit d => decide (c < d)
  | .circuit _, .point _ => true
  | .point _, .circuit _ => false
  | .point k, .point l => k.before l

/-- Function code first, then target (R99). -/
def MapEntry.before (a b : MapEntry) : Bool :=
  decide (a.code < b.code) || (a.code == b.code && a.target.before b.target)

def OutRec.before (a b : OutRec) : Bool := a.key.before b.key

def MapEntry.same (e : MapEntry) (code : Nat) (t : Target) : Bool := e.code == code && e.target == t

def State.entriesFor (s : State) (t : Target) : List MapEntry := s.translator.map.filter (fun e => e.target == t)

/-- A target names a point of one of the positions. -/
def Target.pointOf (t : Target) (who : Nat → Bool) : Bool :=
  match t with
  | .circuit _ => false
  | .point k => who k.pos

/-! ### Derivation (R102, R105) -/

/-- The requested state of circuit c: ON when an entry targeting it maps to 128 or more (R102). -/
def State.requestedState (s : State) (c : Nat) : Bool :=
  (s.entriesFor (.circuit c)).any (fun e => decide (128 ≤ s.mappedValue e))

/-- A derivation that gives a state different from the one last handed over hands it to the lamp check unit (R102). -/
def State.deriveCircuit (s : State) (c : Nat) : State :=
  let on := s.requestedState c
  if on = (s.circuit c).requested then s else s.handover c on

/-- The greatest mapped value over the entries targeting a point (R105). -/
def State.greatestMapped (s : State) (k : PointKey) : Nat :=
  ((s.entriesFor (.point k)).map s.mappedValue).foldl max 0

/-- The requested duty of a record: 0 while retiring or faulted (R105). -/
def State.requestedDuty (s : State) (r : OutRec) : Nat :=
  if r.retiring || r.faulted then 0 else s.greatestMapped r.key

def State.derivePoint (s : State) (k : PointKey) : State :=
  s.modifyOut k (fun r => { r with requested := s.requestedDuty r })

def State.deriveTarget (s : State) : Target → State
  | .circuit c => s.deriveCircuit c
  | .point k => s.derivePoint k

/-! ### Function values (R96) -/

/-- FUNCTION: the value is stored, every target bound to the code derived afresh, and the feed manager takes a change of a
requested duty (R96, R105). A code of 128 or above changes nothing. DESIGN CHOICE (log entry 32): the targets are derived, and
the circuits handed over, in the order of the Function Map. -/
def State.takeFunction (s : State) (code value : Nat) : State :=
  if code < Config.functionCodes then
    let s1 : State := { s with translator := { s.translator with values := s.translator.values.set code value } }
    let targets := (s1.translator.map.filter (fun e => e.code == code)).map (·.target)
    let s2 := targets.foldl State.deriveTarget s1
    if s2.translator.points = s1.translator.points then s2 else s2.feedChanged
  else s

/-! ### Binds (R100, R104) -/

/-- The record a bind creates (R104). -/
def OutRec.fresh (k : PointKey) (cls : OutClass) (nominal : Nat) : OutRec :=
  { key := k, cls := cls, nominal := nominal, requested := 0, applied := 0, accepted := none
    faulted := false, retiring := false, write := .idle, inFlight := none }

/-- The record of a bound point is created, or its class and nominal current overwritten and its faulted and retiring flags
cleared (R104). -/
def State.bindRecord (s : State) (k : PointKey) (cls : OutClass) (nominal : Nat) : State :=
  match s.findOut k with
  | some _ => s.modifyOut k (fun r =>
      { r with cls := cls, nominal := nominal, faulted := false, retiring := false })
  | none => { s with translator := { s.translator with
      points := insertBy OutRec.before (OutRec.fresh k cls nominal) s.translator.points } }

/-- The entry of a bind: replaced in place whoever owned it, or placed in its order (R100, step 2). -/
def State.bindEntry (s : State) (e : MapEntry) : State :=
  let same := fun (o : MapEntry) => o.same e.code e.target
  let m :=
    if s.translator.map.any same then modifyFirst same (fun _ => e) s.translator.map
    else insertBy MapEntry.before e s.translator.map
  { s with translator := { s.translator with map := m } }

/-- The table cannot take what the bind needs (R100, step 1). -/
def State.bindFull (s : State) (e : MapEntry) : Bool :=
  let newEntry := !s.translator.map.any (fun o => o.same e.code e.target)
  let newRecord := match e.target with
    | .circuit _ => false
    | .point k => (s.findOut k).isNone
  (newEntry && decide (Config.functionMapCapacity ≤ s.translator.map.length)) ||
    (newRecord && decide (Config.outputPointCapacity ≤ s.translator.points.length))

/-- A bind that is made: entry, record, derivation (R100, steps 2 to 4), and the feed manager's recomputation. -/
def State.bind (s : State) (e : MapEntry) (cls : OutClass) (nominal : Nat) : State :=
  match e.target with
  | .circuit c => (s.bindEntry e).deriveCircuit c
  | .point k => (((s.bindEntry e).bindRecord k cls nominal).derivePoint k).feedChanged

/-! ### Removals (R101, R106, R108) -/

/-- A record that has lost its last entry becomes retiring; then its duty is derived (R105, R106). -/
def State.retireOrDerive (s : State) (k : PointKey) : State :=
  if (s.entriesFor (.point k)).isEmpty then
    s.modifyOut k (fun r => { r with retiring := true, requested := 0 })
  else s.derivePoint k

def State.afterRemoval (s : State) : Target → State
  | .circuit c => s.deriveCircuit c
  | .point k => s.retireOrDerive k

/-- Entries are removed and each target they leave is derived, its record retiring when none is left (R101, R106). The
records that retire at once go when the feed manager's arithmetic has set their duty 0. -/
def State.removeEntries (s : State) (out : MapEntry → Bool) : State :=
  let gone := (s.translator.map.filter out).map (·.target)
  let s1 := { s with translator := { s.translator with map := s.translator.map.filter (fun e => !out e) } }
  gone.foldl State.afterRemoval s1

/-- UNBIND_FUNCTION of an entry that is there (R101). -/
def State.unbind (s : State) (code : Nat) (t : Target) : State :=
  let s1 := s.removeEntries (fun e => e.same code t)
  match t with
  | .circuit _ => s1
  | .point _ => s1.feedChanged

/-- A detach removes everything that names the positions, with no write made (R108); the feed manager recomputes at its
own turn of the detach. -/
def State.detachTranslator (s : State) (gone : Nat → Bool) : State :=
  { s with translator := { s.translator with
      map := s.translator.map.filter (fun e => !e.target.pointOf gone)
      points := s.translator.points.filter (fun r => !gone r.key.pos)
      queue := s.translator.queue.filter (fun k => !gone k.pos) } }

/-- RESTART zeroes the function values and keeps the wired-target entries alone (R97, R99, R103, R109); every circuit is
then derived (R102). -/
def Translator.restart (t : Translator) : Translator :=
  { values := List.replicate Config.functionCodes 0
    map := t.map.filter (fun e => match e.target with
      | .circuit _ => true
      | .point _ => false)
    points := [], queue := [] }

/-! ### Writes (R111 to R114) -/

/-- The grant of a write: the record leaves the queue, IN_FLIGHT with its applied duty (R111). -/
def State.grantWrite (s : State) (r : OutRec) : State :=
  let s1 := s.modifyOut r.key (fun r => { r with write := .inFlight, inFlight := some r.applied })
  { s1 with translator := { s1.translator with queue := s1.translator.queue.filter (· != r.key) } }

/-- A write ends ACCEPTED: the accepted duty becomes the value in flight, then the record is removed or evaluated
(R112). -/
def State.writeAccepted (s : State) (k : PointKey) : State :=
  let s1 := s.modifyOut k (fun r => { r with accepted := r.inFlight, inFlight := none, write := .idle })
  match s.findOut k with
  | some r => if r.retiring && r.inFlight == some 0 then s1.feedChanged else s1.feedTail
  | none => s1

/-- A write ends with an outcome that refuses the point: the record becomes faulted, and its duty 0 (R107, R113). -/
def State.writeRefused (s : State) (k : PointKey) : State :=
  (s.modifyOut k (fun r =>
    { r with write := .idle, inFlight := none, faulted := true, requested := 0 })).feedChanged

/-- A write ends with any other outcome: the record is evaluated and, if it still needs a write, joins the tail of its
class (R113). -/
def State.writeFailed (s : State) (k : PointKey) : State :=
  (s.modifyOut k (fun r => { r with write := .idle, inFlight := none })).feedTail

/-- A write is returned ungranted by RESET_LINK: a record that needs a write takes its place at the head of its class, ahead
of every record that joined after its grant (R114). -/
def State.writeReturned (s : State) (k : PointKey) : State :=
  match s.findOut k with
  | none => s
  | some r =>
    let s1 := s.modifyOut k (fun r => { r with write := .idle, inFlight := none })
    if ({ r with write := .idle, inFlight := none } : OutRec).needsWrite then
      let s2 := s1.modifyOut k (fun r => { r with write := .queued })
      ({ s2 with translator := { s2.translator with queue := k :: s2.translator.queue } }).feedTail
    else s1.feedTail

/-- A run's WRITE_POINT of a bound point ends ACCEPTED: the record notes what the node now holds, the byte sent for a count
of 1, absent for a count of 2, and is evaluated (R54, R109). -/
def State.noteRunWrite (s : State) (k : PointKey) (sent : List Byte) : State :=
  match s.findOut k with
  | none => s
  | some _ =>
    let held := match sent with
      | [b] => some b.toNat
      | _ => none
    (s.modifyOut k (fun r => { r with accepted := held })).feedTail

end Sys2Proof.Machine
end

