-- ==== Sys2Proof/Machine/Outcome.lean ====
section
/-! DEFINITION. What a transaction ends with, as the link controller hands it to its requester (R33, R34, R76). -/

namespace Sys2Proof.Machine

/-- The outcomes of R33, with what each carries. -/
inductive TxnOutcome where
  | noNode
  | linkCheck
  | timeout
  | nodeStatus (status : InitialStatus)
  | length (residual : Nat) (received : List Byte)
  | accepted (received : List Byte)
  | linkReset
  deriving DecidableEq, Repr

/-- A transaction at its end: its outcome, the statuses its record holds, and the indications shown (R27, R34). -/
structure Ended where
  txn : Txn
  outcome : TxnOutcome
  initial : Option InitialStatus
  ending : Option EndingStatus
  attention : Bool
  downstreamChange : Bool
  deriving DecidableEq, Repr

/-- "BUSY alone": BUSY set and neither UNIT_CHECK nor POINT_INVALID (R33). -/
def InitialStatus.busyAlone (i : InitialStatus) : Bool := i.busy && !i.unitCheck && !i.pointInvalid

/-- The status a NODE_STATUS carries for an ending status UNIT_CHECK (R33). -/
def InitialStatus.ofUnitCheck : InitialStatus :=
  { busy := false, unitCheck := true, pointInvalid := false, attention := false, downstreamChange := false }

/-- The last status word received showed ATTENTION: the ending status if received, else the initial status, else none
(R126, step 2). -/
def Ended.lastStatusAttention (e : Ended) : Bool :=
  match e.ending, e.initial with
  | some x, _ => x.attention
  | none, some i => i.attention
  | none, none => false

/-- The ending status received showed DOWNSTREAM_CHANGE (R16). -/
def Ended.endingShowedChange (e : Ended) : Bool :=
  match e.ending with
  | some x => x.downstreamChange
  | none => false

end Sys2Proof.Machine
end

