-- ==== Sys2Proof/Machine/Scanner.lean ====
section
/-! DEFINITION. The report scanner: Report Map, initial-read set, rounds, attention, change lists, initial reads (R116 to
R131). -/

namespace Sys2Proof.Machine

def State.modifyScanner (s : State) (f : Scanner → Scanner) : State := { s with scanner := f s.scanner }

/-! ### Report Map and initial-read set (R116 to R119) -/

def ReportEntry.before (a b : ReportEntry) : Bool := a.key.before b.key

def State.findReport (s : State) (k : PointKey) : Option ReportEntry := s.scanner.map.find? (fun e => e.key == k)

/-- The map cannot take a new key (R117). -/
def State.reportFull (s : State) (k : PointKey) : Bool :=
  (s.findReport k).isNone && decide (Config.reportMapCapacity ≤ s.scanner.map.length)

/-- A bind that is made: the entry of the key is replaced in place, or placed in its order; the last reported value is
absent (R117). -/
def State.bindReport (s : State) (e : ReportEntry) : State :=
  s.modifyScanner (fun sc => { sc with
    map := if (s.findReport e.key).isSome then modifyFirst (fun o => o.key == e.key) (fun _ => e) sc.map
           else insertBy ReportEntry.before e sc.map })

/-- A key joins at the tail, its tried mark clear; one already there keeps its place and its mark (R119). -/
def Scanner.joinInitial (sc : Scanner) (k : PointKey) : Scanner :=
  if sc.initialSet.any (fun i => i.key == k) then sc
  else { sc with initialSet := sc.initialSet ++ [⟨k, false⟩] }

def Scanner.dropInitial (sc : Scanner) (out : PointKey → Bool) : Scanner :=
  { sc with initialSet := sc.initialSet.filter (fun i => !out i.key) }

/-- UNBIND_REPORT of an entry that is there (R118). -/
def State.unbindReport (s : State) (k : PointKey) : State :=
  s.modifyScanner (fun sc =>
    { sc.dropInitial (fun i => i == k) with map := sc.map.filter (fun e => e.key != k) })

/-- The run of position p starts: the entries it owns are removed (R67, R118). -/
def State.releaseReports (s : State) (p : Nat) : State :=
  s.modifyScanner (fun sc => { sc with map := sc.map.filter (fun e => e.owner != p) })

/-- The run of position p starts: p's initial-read keys are dropped (R67, R119). -/
def State.dropInitialReads (s : State) (p : Nat) : State :=
  s.modifyScanner (fun sc => sc.dropInitial (fun i => i.pos == p))

/-! ### Choosing work, and the end of a round (R122, R123) -/

/-- The round finishes once nothing is outstanding (R123); a finish clears the overdue mark here and at the arbiter
(R43). -/
def State.finishRound (s : State) : State :=
  if s.scanner.outstanding = [] then
    { s.modifyScanner (fun sc => { sc with round := false, overdue := false }) with
      arbiter := { s.arbiter with scanOverdue := false } }
  else s

/-- The scanner chooses its next piece of work (R122). -/
def State.chooseWork (s : State) : State :=
  if s.scanner.request.isSome || !s.scanner.round then s
  else
    match s.scanner.attention.filter s.scannedAt with
    | p :: rest => s.modifyScanner (fun sc => { sc with attention := rest, request := some (.changeList p) })
    | [] =>
      match s.scanner.pollList with
      | p :: rest =>
        s.modifyScanner (fun sc => { sc with attention := [], pollList := rest, request := some (.poll p) })
      | [] =>
        match s.scanner.initialSet.find? (fun i => !i.tried && s.scannedAt i.key.pos) with
        | some i =>
          s.modifyScanner (fun sc => { sc with
            attention := [], request := some (.initialRead i.key.pos i.key.point) })
        | none => (s.modifyScanner (fun sc => { sc with attention := [] })).finishRound

/-- A round starts (R121). -/
def State.startRound (s : State) : State :=
  let polled := allPositions.filter (fun p => s.occupied p && (s.pcr p).state != .identifying)
  (s.modifyScanner (fun sc => { sc with
    round := true, overdue := false, pollList := polled
    initialSet := sc.initialSet.map (fun i => { i with tried := false }) })).chooseWork

/-- The scan period expires; the timer restarts with SCAN_PERIOD as it stands (R120). -/
def State.periodExpires (s : State) : State :=
  let s1 := s.modifyScanner (fun sc => { sc with periodTimer := s.now + s.params.scanPeriod * Config.tenMs })
  if s1.scanner.round then
    { s1.modifyScanner (fun sc => { sc with overdue := true }) with
      arbiter := { s1.arbiter with scanOverdue := true } }
  else s1.startRound

/-! ### Grants, attention, values (R122, R125 to R129) -/

/-- An initial read's tried mark (R119, R122, R131). -/
def Scanner.markTried (sc : Scanner) (w : ScanWork) (tried : Bool) : Scanner :=
  match w with
  | .initialRead p a =>
    { sc with initialSet := sc.initialSet.map (fun i => if i.key = ⟨p, a⟩ then { i with tried := tried } else i) }
  | .poll _ => sc
  | .changeList _ => sc

/-- The scanner's request is granted under a serial number (R122). -/
def State.scanGranted (s : State) (serial : Nat) (w : ScanWork) : State :=
  (s.modifyScanner (fun sc => { sc.markTried w true with
    request := none, outstanding := sc.outstanding ++ [⟨serial, w⟩] })).chooseWork

/-- ATTENTION from an occupied, scanned position (R125). -/
def State.takeAttention (s : State) (p : Nat) : State :=
  if s.scannedAt p then (s.modifyScanner (fun sc => { sc with attention := insertAsc p sc.attention })).chooseWork
  else s

/-- A REPORT of an entry's new value is placed, and the value becomes the last reported (R127 to R129). -/
def State.report (s : State) (e : ReportEntry) (v : Nat) : State :=
  (s.modifyScanner (fun sc => { sc with
    map := modifyFirst (fun o => o.key == e.key) (fun o => { o with last := some v }) sc.map })).placeReport
    { code := e.code, pos := e.key.pos, value := v }

/-- The filter lets a value through (R127, step 3). -/
def ReportEntry.passes (e : ReportEntry) (v : Nat) : Bool :=
  match e.last, e.filter with
  | none, _ => true
  | some w, .change => w != v
  | some w, .delta => decide (e.threshold ≤ max v w - min v w)

/-- A change delivered for a key (R127). -/
def State.deliverChange (s : State) (k : PointKey) (v : Nat) : State :=
  let s1 := s.modifyScanner (fun sc => sc.dropInitial (fun i => i == k))
  match s1.findReport k with
  | none => s1
  | some e => if e.passes v then s1.report e v else s1

/-- The whole entries of a change list, three bytes each, at most two; point address 0 is no change (R25, R126). -/
def changeEntries : Nat → List Byte → List (Nat × Nat)
  | n + 1, a :: lo :: hi :: rest =>
    if a.toNat = 0 then changeEntries n rest else (a.toNat, (halfOf lo hi).toNat) :: changeEntries n rest
  | _, _ => []

/-- The entries a change-list read brings (R126, step 1). -/
def TxnOutcome.entries : TxnOutcome → List (Nat × Nat)
  | .accepted bs => changeEntries 2 bs
  | .length _ bs => changeEntries 2 bs
  | .noNode => []
  | .linkCheck => []
  | .timeout => []
  | .nodeStatus _ => []
  | .linkReset => []

/-- The value an initial read brings (R128). -/
def TxnOutcome.valueRead : TxnOutcome → Option Nat
  | .accepted (lo :: hi :: _) => some (halfOf lo hi).toNat
  | .accepted _ => none
  | .length _ (b :: _) => some b.toNat
  | .length _ [] => none
  | .noNode => none
  | .linkCheck => none
  | .timeout => none
  | .nodeStatus _ => none
  | .linkReset => none

/-- The outcome of an initial read (R128). DESIGN CHOICE (log entry 34): a read that faulted leaves the tried mark of its key as
it stands, and so clear where the key has left the set and joined it again since the grant. -/
def State.initialReadEnded (s : State) (k : PointKey) (o : TxnOutcome) : State :=
  match o.valueRead with
  | none => s
  | some v =>
    if s.scanner.initialSet.any (fun i => i.key == k) then
      let s1 := s.modifyScanner (fun sc => sc.dropInitial (fun i => i == k))
      match s1.findReport k with
      | some e => s1.report e v
      | none => s1
    else s.deliverChange k v

/-- The outcome of a change-list read of p (R126, steps 1 and 2). -/
def State.changeListEnded (s : State) (p : Nat) (e : Ended) : State :=
  let s1 := e.outcome.entries.foldl (fun s (av : Nat × Nat) => s.deliverChange ⟨p, av.1⟩ av.2) s
  if e.lastStatusAttention then s1.modifyScanner (fun sc => { sc with attention := insertAsc p sc.attention })
  else s1

/-- A transaction of the scanner's is no longer outstanding (R121). -/
def Scanner.settle (sc : Scanner) (serial : Nat) : Scanner :=
  { sc with outstanding := sc.outstanding.filter (fun o => o.serial != serial) }

/-- The outcome of a transaction of the scanner's; a stale one is discarded; then the scanner chooses (R124, R126, R128,
R130). -/
def State.scanEnded (s : State) (w : ScanWork) (e : Ended) : State :=
  let s1 := s.modifyScanner (·.settle e.txn.serial)
  let s2 :=
    if e.txn.stale then s1
    else
      match w with
      | .poll _ => s1
      | .changeList p => s1.changeListEnded p e
      | .initialRead p a => s1.initialReadEnded ⟨p, a⟩ e.outcome
  s2.chooseWork

/-! ### Detach and returns (R130, R131) -/

def ScanWork.position : ScanWork → Nat
  | .changeList p => p
  | .poll p => p
  | .initialRead p _ => p

/-- A detach reaches the scanner (R130). -/
def State.detachScanner (s : State) (gone : Nat → Bool) : State :=
  (s.modifyScanner (fun sc => { sc.dropInitial (fun k => gone k.pos) with
    map := sc.map.filter (fun e => !gone e.key.pos)
    pollList := sc.pollList.filter (fun p => !gone p)
    attention := sc.attention.filter (fun p => !gone p)
    request := sc.request.filter (fun w => !gone w.position) })).chooseWork

/-- The work of a request that another displaces goes back where it was taken from (log entry 10). -/
def Scanner.putBack (sc : Scanner) : Option ScanWork → Scanner
  | none => sc
  | some (.poll p) => { sc with pollList := insertAsc p sc.pollList }
  | some (.changeList p) => { sc with attention := insertAsc p sc.attention }
  | some (.initialRead _ _) => sc

/-- RESET_LINK returns a granted transaction from the holding slot: its work stands again, an initial read untried (R131).
A request chosen meanwhile gives way to it (log entry 10); a returned request of a detached position is dropped. -/
def State.scanReturned (s : State) (w : ScanWork) (t : Txn) : State :=
  if t.stale then (s.modifyScanner (·.settle t.serial)).chooseWork
  else s.modifyScanner (fun sc =>
    { (((sc.settle t.serial).putBack sc.request).markTried w false) with request := some w })

/-- A break returns a granted transaction from the holding slot: it is dropped, and the scanner chooses (R131). -/
def State.scanDropped (s : State) (t : Txn) : State := (s.modifyScanner (·.settle t.serial)).chooseWork

/-- RESTART (R131, R120): the round's mark at the arbiter is cleared with it (R43). -/
def State.restartScanner (s : State) : State :=
  { s with scanner := Scanner.start s.now s.params.scanPeriod, arbiter := { s.arbiter with scanOverdue := false } }

end Sys2Proof.Machine
end

