-- ==== Sys2Proof/Machine/Engine.lean ====
section
/-! DEFINITION. The bring-up engine: matching, run starts, steps and their completions, transaction outcomes, hold, resume,
abort, detach (R48 to R50, R60 to R95). -/

namespace Sys2Proof.Machine

/-! ### Matching and protection (R48, R50, R60) -/

def Profile.serves (pr : Profile) (i : Identity) : Bool :=
  pr.valid && pr.typeCode == i.typeCode && decide (pr.revLow ≤ i.revision ∧ i.revision ≤ pr.revHigh)

/-- The slot that carries the fallback mark (R46). -/
def State.fallbackSlot (s : State) : Option Nat := s.profiles.findIdx? (·.fallback)

/-- Matching (R48); without an identity only the fallback can be found (R50). -/
def State.matchSlot (s : State) (i : Option Identity) : Option Nat :=
  match i with
  | none => s.fallbackSlot
  | some i =>
    match s.profiles.findIdx? (·.serves i) with
    | some slot => some slot
    | none => s.fallbackSlot

/-- A slot is in use while an occupied position is BRINGING_UP or HELD with it (R60). -/
def State.slotInUse (s : State) (slot : Nat) : Bool :=
  allPositions.any (fun p =>
    s.occupied p && (s.pcr p).state.running && (s.pcr p).profileSlot == some slot)

/-- The indices of a record's step range (R44). -/
def Profile.inRange (pr : Profile) (i : Int) : Bool :=
  decide ((pr.firstStep : Int) ≤ i ∧ i < (pr.firstStep : Int) + pr.stepCount)

/-- Some slot in use has the step index in its range (R60). -/
def State.stepInUse (s : State) (i : Nat) : Bool :=
  (List.range Config.profileSlots).any (fun slot => s.slotInUse slot && (s.profile slot).inRange i)

/-- The slot a START names or that matching resolves, or the refusal (R50). -/
def State.resolve (s : State) (p : Nat) (named : Option Nat) : Except Result Nat :=
  match named with
  | some slot =>
    if Config.profileSlots ≤ slot then .error .badValue
    else if (s.profile slot).valid then .ok slot
    else .error .notFound
  | none =>
    match s.matchSlot (s.pcr p).identity with
    | some slot => .ok slot
    | none => .error .notFound

/-! ### States and notices (R63) -/

/-- The position's state changes, and its POSITION notice carries the cause as it then stands (R63). -/
def State.enter (s : State) (p : Nat) (st : PosState) : State :=
  (s.modifyPcr p (fun x => { x with state := st })).noteEngine p (.position p st (s.pcr p).cause)

/-- The run fails (R75). -/
def State.failRun (s : State) (p : Nat) (c : Cause) : State :=
  (s.modifyPcr p (fun x => { x with cause := some c, phase := .idle, holdPending := false })).enter p .failed

/-- The run ends (R68). -/
def State.endRun (s : State) (p : Nat) : State :=
  (s.modifyPcr p (fun x => { x with phase := .idle, holdPending := false })).enter p
    (if (s.pcr p).degraded then .degraded else .ready)

/-! ### Completion of a step (R73, R74, R91) -/

def Descriptor.flags : Descriptor → StepFlags
  | .step f _ => f
  | .empty => { chain := false, critical := false, suppress := false, skip := false, notify := false }

def Descriptor.op : Descriptor → Option StepOp
  | .step _ op => some op
  | .empty => none

/-- The step index of the position's run. -/
def Pcr.index (x : Pcr) : Nat := x.stepIndex.getD 0

/-- The step the position's run is at. -/
def State.currentStep (s : State) (p : Nat) : Descriptor := s.stepAt (s.pcr p).index

/-- The profile record of the position's run. -/
def State.runProfile (s : State) (p : Nat) : Profile := s.profile ((s.pcr p).profileSlot.getD 0)

/-- A next index is decided: the run holds there, or the next step begins (R73, R91). -/
def State.goTo (s : State) (p : Nat) (i : Nat) : State :=
  let x := s.pcr p
  if x.holdPending then
    (s.setPcr p { x with stepIndex := some i, phase := .idle, holdPending := false }).enter p .held
  else (s.setPcr p { x with stepIndex := some i, phase := .idle }).handFirst (.begin p)

/-- A step completes; `branch` is the target of a branch taken (R73). DESIGN CHOICE (log entry 30): where the run fails with
BAD_STEP after a fault of its last step, the cause becomes BAD_STEP, as R73's table and R75 have it, and the degraded flag
stays. -/
def State.decideNext (s : State) (p : Nat) (branch : Option Int) : State :=
  let i := (s.pcr p).index
  let pr := s.runProfile p
  match branch with
  | some t => if pr.inRange t then s.goTo p t.toNat else s.failRun p .badStep
  | none =>
    if (s.currentStep p).flags.chain then
      if i + 1 = pr.firstStep + pr.stepCount then s.failRun p .badStep else s.goTo p (i + 1)
    else s.endRun p

def State.succeed (s : State) (p : Nat) : State := s.decideNext p none

/-- The faults that SUPPRESS turns into success (R74). -/
def Cause.suppressible : Cause → Bool
  | .length => true
  | .probeMismatch => true
  | .feedClamped => true
  | .identFailed => false
  | .noNode => false
  | .linkCheck => false
  | .timeout => false
  | .linkReset => false
  | .nodeBusy => false
  | .unitCheck => false
  | .pointInvalid => false
  | .tableFull => false
  | .circuitFault => false
  | .stepLimit => false
  | .badStep => false
  | .aborted => false
  | .uncoupled => false
  | .reEnumerated => false
  | .truncated => false
  | .nodeLost => false
  | .nodeStatus => false

/-- A step fault by the step's flags (R74). -/
def State.stepFault (s : State) (p : Nat) (c : Cause) : State :=
  let f := (s.currentStep p).flags
  if f.suppress && c.suppressible then s.succeed p
  else if f.critical then s.failRun p c
  else (s.modifyPcr p (fun x => { x with cause := some c, degraded := true })).succeed p

/-- What another block hands over for a step that waits in FEED or PROBE (R88, R89); for any other position nothing waits
and nothing is done (R70, R93). -/
def State.completeStep (s : State) (p : Nat) (v : Option Nat) (fault : Option Cause) : State :=
  let x := s.pcr p
  if x.state = .bringingUp ∧ (x.phase = .feed ∨ x.phase = .probe) then
    let s1 := s.setPcr p { x with v := v.getD x.v }
    match fault with
    | none => s1.succeed p
    | some c => s1.stepFault p c
  else s

/-! ### Beginning a step (R71, R85 to R89) -/

def TestCond.holds (c : TestCond) (v operand : Nat) : Bool :=
  match c with
  | .zero => v == 0
  | .nonzero => v != 0
  | .below => decide (v < operand)
  | .above => decide (operand < v)
  | .equal => v == operand

/-- A phase that waits for another block or for a grant. -/
def State.await (s : State) (p : Nat) (ph : StepPhase) : State := s.modifyPcr p (fun x => { x with phase := ph })

/-- The operation of the step that begins (R71 step 5, R76, R85 to R89). -/
def State.operate (s : State) (p : Nat) (op : StepOp) : State :=
  let x := s.pcr p
  match op with
  | .writePoint .. => s.await p .awaitGrant
  | .readPoint .. => s.await p .awaitGrant
  | .sense => s.await p .awaitGrant
  | .bindOut code a cls n mode param =>
    let e : MapEntry := { code := code, target := .point ⟨p, a⟩, mode := mode, param := param, owner := p }
    if s.bindFull e then s.stepFault p .tableFull else (s.bind e cls n).succeed p
  | .bindIn a code f t =>
    let e : ReportEntry := { key := ⟨p, a⟩, code := code, filter := f, threshold := t, last := none, owner := p }
    if s.reportFull ⟨p, a⟩ then s.stepFault p .tableFull
    else ((s.bindReport e).modifyScanner (·.joinInitial ⟨p, a⟩)).succeed p
  | .bindLoad c n => (s.bindLoad p c n).succeed p
  | .feedRequest cls => (s.await p .feed).requestFeed p cls
  | .wait d => s.setPcr p { x with phase := .timer, waitTimer := some (s.now + d * Config.tenMs) }
  | .lampProbe c e => (s.await p .probe).requestProbe c ⟨p, e⟩
  | .test cond v d =>
    s.decideNext p (if cond.holds x.v v then some ((x.index : Int) + d) else none)
  | .setCount v => (s.setPcr p { x with x := v }).succeed p
  | .count d =>
    let n := min 127 (x.x + 1)
    (s.setPcr p { x with x := n }).decideNext p (if n < 0 then some ((x.index : Int) + d) else none)

/-- The step at the step index begins (R71). -/
def State.beginStep (s : State) (p : Nat) : State :=
  let x := s.pcr p
  if x.state ≠ .bringingUp then s
  else if Config.stepBudget ≤ x.executed then s.failRun p .stepLimit
  else
    let s1 := s.setPcr p { x with executed := x.executed + 1 }
    match s.currentStep p with
    | .empty => s1.failRun p .badStep
    | .step f op =>
      let s2 := s1.modifyPcr p (fun x => { x with attempts := 0, busyRetries := 0 })
      let s3 := if f.notify then s2.note (.progress p x.index) else s2
      s3.operate p op

/-! ### The engine's work within an event -/

def State.doJob (s : State) : Job → State
  | .begin p => s.beginStep p
  | .complete p v fault => s.completeStep p v fault

/-- The engine works off what the event has handed it, a completion's next step before anything else (log entry 7). The
fuel is never spent: a run begins at most 256 steps and each step completes once. -/
def State.drain : Nat → State → State
  | 0, s => s
  | fuel + 1, s =>
    match s.ev.jobs with
    | [] => s
    | j :: rest => State.drain fuel (({ s with ev := { s.ev with jobs := rest } }).doJob j)

def State.settleJobs (s : State) : State := s.drain 4096

/-! ### Run start (R64, R65, R67) -/

/-- A run of position p starts from a slot (R67). -/
def State.startRun (s : State) (p slot : Nat) : State :=
  let s1 := ((s.removeEntries (fun e => e.owner == p)).releaseReports p).removeLoads (fun q => q == p)
  let s2 := ((s1.setRequest p 0).feedChanged).dropInitialReads p
  let s3 := s2.modifyPcr p (fun x => { x with
    v := 0, x := 0, executed := 0, attempts := 0, busyRetries := 0, residual := 0
    lastInitial := none, lastEnding := none, sense := [], cause := none, degraded := false, holdPending := false
    profileSlot := some slot, stepIndex := some (s.profile slot).firstStep })
  ((s3.enter p .bringingUp).handFirst (.begin p)).settleJobs

/-- The auto-start test (R65). -/
def State.autoStart (s : State) (p : Nat) : State :=
  if (s.pcr p).state = .waiting ∧ s.params.autoStart = 1 ∧ s.coupling.lock = true then
    s.startRun p ((s.pcr p).profileSlot.getD 0)
  else s

/-- Every WAITING position, in ascending order (R65). -/
def State.autoStartAll (s : State) : State := allPositions.foldl State.autoStart s

/-- An identity handed by the enumerator (R48, R64). -/
def State.takeIdentity (s : State) (p : Nat) (i : Identity) : State :=
  let slot := s.matchSlot (some i)
  let s1 := s.modifyPcr p (fun x => { x with identity := some i, profileSlot := slot })
  match slot with
  | some _ => (s1.enter p .waiting).autoStart p
  | none => s1.enter p .unprofiled

/-- IDENT_FAILED handed by the enumerator (R64). -/
def State.identFailed (s : State) (p : Nat) : State :=
  (s.modifyPcr p (fun x => { x with cause := some .identFailed })).enter p .failed

/-- A newly occupied position is IDENTIFYING, with no notice (R6, R63). -/
def State.identifying (s : State) (p : Nat) : State := s.setPcr p { Pcr.empty with state := .identifying }

/-- Re-matching of one position (R49). -/
def State.rematch (s : State) (p : Nat) : State :=
  let x := s.pcr p
  let slot := s.matchSlot x.identity
  let s1 := s.setPcr p { x with profileSlot := slot }
  if !s.occupied p then s
  else
    match x.state, slot with
    | .waiting, some _ => s1
    | .waiting, none => s1.enter p .unprofiled
    | .unprofiled, some _ => (s1.enter p .waiting).autoStart p
    | .unprofiled, none => s
    | _, _ => s

def State.rematchAll (s : State) : State := allPositions.foldl State.rematch s

/-- A traffic write of the position's output ended NODE_STATUS with POINT_INVALID or UNIT_CHECK (R69). -/
def State.trafficFault (s : State) (p : Nat) (c : Cause) : State :=
  let s1 := s.modifyPcr p (fun x => { x with cause := some c })
  match (s.pcr p).state with
  | .empty => s
  | .ready => s1.enter p .degraded
  | .degraded => s1
  | .waiting => s1
  | .unprofiled => s1
  | .identifying => s1
  | .bringingUp => s1
  | .held => s1
  | .failed => s1

/-! ### Transaction steps (R54, R76 to R84) -/

/-- The bytes a WRITE_POINT sends, fixed at grant (R54). -/
def writeBytes (count value : Nat) : List Byte := if count = 1 then [byteOf (min value 255)] else twoBytes value

/-- What the position's level-4 request asks for: kind, point, count, bytes (R76, R80). -/
def State.engineWants (s : State) (p : Nat) : TxnKind × Nat × Nat × List Byte :=
  let x := s.pcr p
  if x.senseInProgress then (.sense, 0, 0, [])
  else
    match (s.currentStep p).op with
    | some (.writePoint a n fromV v) => (.write, a, n, writeBytes n (if fromV then x.v else v))
    | some (.readPoint a n) => (.read, a, n, [])
    | _ => (.sense, 0, 0, [])

/-- The position's request is granted (R76). -/
def State.engineGranted (s : State) (p serial : Nat) : State :=
  s.modifyPcr p (fun x => { x with awaited := some serial, phase := .inLink })

/-- V from the bytes a READ_POINT received (R77, R82). -/
def readValue (count : Nat) (v : Nat) : List Byte → Nat
  | [] => v
  | [b] => b.toNat
  | lo :: hi :: _ => if count = 1 then lo.toNat else (halfOf lo hi).toNat

/-- V after the received bytes, unless SKIP is set or the step is no READ_POINT. -/
def State.takeRead (s : State) (p : Nat) (bs : List Byte) : State :=
  match s.currentStep p with
  | .step f (.readPoint _ n) =>
    if f.skip then s else s.modifyPcr p (fun x => { x with v := readValue n x.v bs })
  | .step _ .sense => s.modifyPcr p (fun x => { x with sense := bs.take 4 })
  | _ => s

/-- A link failure of the step's transaction (R78). -/
def State.linkFailure (s : State) (p : Nat) (c : Cause) : State :=
  let x := s.pcr p
  let s1 := s.setPcr p { x with attempts := x.attempts + 1 }
  if x.attempts + 1 < 3 then s1.await p .awaitGrant else s1.stepFault p c

/-- A NODE_STATUS of the step's transaction: UNIT_CHECK, then POINT_INVALID, then BUSY alone (R79 to R81). -/
def State.nodeAnswered (s : State) (p : Nat) (st : InitialStatus) : State :=
  let x := s.pcr p
  if st.unitCheck then s.setPcr p { x with senseInProgress := true, phase := .awaitGrant }
  else if st.pointInvalid then s.stepFault p .pointInvalid
  else if x.busyRetries < 5 then
    s.setPcr p { x with
      busyRetries := x.busyRetries + 1, phase := .timer, busyTimer := some (s.now + Config.busyRetry) }
  else s.stepFault p .nodeBusy

/-- A LENGTH of the step's transaction (R82). -/
def State.lengthEnded (s : State) (p residual : Nat) (bs : List Byte) : State :=
  let s1 := s.modifyPcr p (fun x => { x with residual := residual })
  let s2 :=
    match s.currentStep p with
    | .step f (.readPoint ..) => if f.suppress then s1.takeRead p bs else s1
    | _ => s1
  s2.stepFault p .length

/-- An ACCEPTED WRITE_POINT is noted in the output point record of its point (R54). -/
def State.noteIfWrite (s : State) (e : Ended) : State :=
  match e.txn.kind with
  | .write => s.noteRunWrite ⟨e.txn.address, e.txn.point⟩ e.txn.send
  | .read => s
  | .sense => s
  | .poll => s
  | .assign => s

/-- The outcome of the step's own transaction (R77 to R82). -/
def State.stepEnded (s : State) (p : Nat) (e : Ended) : State :=
  match e.outcome with
  | .accepted bs => ((s.takeRead p bs).noteIfWrite e).succeed p
  | .noNode => s.linkFailure p .noNode
  | .linkCheck => s.linkFailure p .linkCheck
  | .timeout => s.linkFailure p .timeout
  | .linkReset => s.linkFailure p .linkReset
  | .nodeStatus st => s.nodeAnswered p st
  | .length r bs => s.lengthEnded p r bs

/-- The sense bytes after an automatic SENSE (R80, step 2). -/
def TxnOutcome.senseBytes : TxnOutcome → List Byte
  | .accepted bs => bs.take 4
  | .noNode => []
  | .linkCheck => []
  | .timeout => []
  | .linkReset => []
  | .nodeStatus _ => []
  | .length _ _ => []

/-- An outcome reaches the engine: only the awaited transaction's, not stale, is taken (R76). DESIGN CHOICE (log entry 29): an
outcome that is not taken is discarded whole, the note R54 makes of an ACCEPTED WRITE_POINT with it. -/
def State.engineEnded (s : State) (e : Ended) : State :=
  let p := e.txn.address
  let x := s.pcr p
  if e.txn.stale || x.awaited != some e.txn.serial then s
  else if x.senseInProgress then
    (s.setPcr p { x with
      awaited := none, senseInProgress := false, sense := e.outcome.senseBytes }).stepFault p .unitCheck
  else
    (s.setPcr p { x with
      awaited := none, lastInitial := e.initial, lastEnding := e.ending.map (·.completion) }).stepEnded p e

/-- A granted transaction comes back ungranted: if awaited, the request stands again (R84). DESIGN CHOICE (log entry 31): one
that nothing awaits any more, of an aborted run or a detached position, is dropped. -/
def State.engineReturned (s : State) (t : Txn) : State :=
  if (s.pcr t.address).awaited = some t.serial then
    s.modifyPcr t.address (fun x => { x with awaited := none, phase := .awaitGrant })
  else s

/-- The BUSY retry timer expires: the same transaction is requested again (R79). -/
def State.busyRetry (s : State) (p : Nat) : State :=
  s.modifyPcr p (fun x => { x with busyTimer := none, phase := .awaitGrant })

/-- The WAIT timer expires: the step completes (R87). -/
def State.waitOver (s : State) (p : Nat) : State :=
  (s.modifyPcr p (fun x => { x with waitTimer := none })).succeed p

/-! ### Hold, resume, abort, detach (R70, R90 to R93) -/

/-- HOLD (R90): the answer, and the state. -/
def State.holdRun (s : State) (p : Nat) : Result × State :=
  match (s.pcr p).state with
  | .bringingUp => (.ok, s.modifyPcr p (fun x => { x with holdPending := true }))
  | .held => (.ok, s)
  | .empty => (.notPresent, s)
  | .identifying => (.wrongState, s)
  | .waiting => (.wrongState, s)
  | .unprofiled => (.wrongState, s)
  | .ready => (.wrongState, s)
  | .degraded => (.wrongState, s)
  | .failed => (.wrongState, s)

/-- RESUME (R92). -/
def State.resumeRun (s : State) (p : Nat) : Result × State :=
  match (s.pcr p).state with
  | .held => (.ok, ((s.enter p .bringingUp).handFirst (.begin p)).settleJobs)
  | .bringingUp =>
    if (s.pcr p).holdPending then (.ok, s.modifyPcr p (fun x => { x with holdPending := false }))
    else (.wrongState, s)
  | .empty => (.notPresent, s)
  | .identifying => (.wrongState, s)
  | .waiting => (.wrongState, s)
  | .unprofiled => (.wrongState, s)
  | .ready => (.wrongState, s)
  | .degraded => (.wrongState, s)
  | .failed => (.wrongState, s)

/-- The abort of a run (R93). -/
def State.stopRun (s : State) (p : Nat) : State :=
  let s1 := s.modifyPcr p (fun x => { x with
    waitTimer := none, busyTimer := none, awaited := none, holdPending := false, senseInProgress := false
    phase := .idle, cause := some .aborted })
  ((s1.abandonProbes p).abandonFeedStep p).enter p .failed

/-- ABORT (R93). -/
def State.abortRun (s : State) (p : Nat) : Result × State :=
  match (s.pcr p).state with
  | .bringingUp => (.ok, s.stopRun p)
  | .held => (.ok, s.stopRun p)
  | .empty => (.notPresent, s)
  | .identifying => (.wrongState, s)
  | .waiting => (.wrongState, s)
  | .unprofiled => (.wrongState, s)
  | .ready => (.wrongState, s)
  | .degraded => (.wrongState, s)
  | .failed => (.wrongState, s)

/-- ENUMERATE with force aborts every run (R93, R173). -/
def State.stopAllRuns (s : State) : State :=
  allPositions.foldl (fun s p => if (s.pcr p).state.running then s.stopRun p else s) s

/-- START (R66). -/
def State.startRequest (s : State) (p : Nat) (named : Option Nat) : Result × State :=
  let go :=
    match s.resolve p named with
    | .ok slot => (.ok, s.startRun p slot)
    | .error r => (r, s)
  match (s.pcr p).state with
  | .empty => (.notPresent, s)
  | .identifying => (.wrongState, s)
  | .bringingUp => (.wrongState, s)
  | .held => (.wrongState, s)
  | .waiting => go
  | .unprofiled => go
  | .ready => go
  | .degraded => go
  | .failed => go

/-- A detach reaches the engine: the PCRs take the EMPTY values, which withdraws requests, timers and the awaited
transaction (R70). -/
def State.detachEngine (s : State) (gone : Nat → Bool) : State :=
  allPositions.foldl (fun s p => if gone p then s.setPcr p Pcr.empty else s) s

/-- RESTART: every PCR takes the EMPTY values, with no notice (R61). -/
def State.restartEngine (s : State) : State := { s with pcrs := .all Pcr.empty }

end Sys2Proof.Machine
end

