-- ==== Sys2Proof/Machine/Link.lean ====
section
/-! DEFINITION. The link controller: the rates, what each node word does to the transaction on the line, the holding slot,
the break (R20, R21, R27 to R39, R187). -/

namespace Sys2Proof.Machine

def State.modifyLink (s : State) (f : Link → Link) : State := { s with link := f s.link }

/-! ### Durations (R21) -/

/-- Microseconds of one bit time at a rate (R21). -/
def bitTime : Nat → Nat
  | 1 => 50
  | 2 => 20
  | _ => 8

/-- A number of bit times at the rate in force. -/
def Link.bitTimes (l : Link) (n : Nat) : Nat := n * bitTime l.rate

/-- Bit times of a word: nine, and one more for the start condition of a marked word (R20, R21). -/
def wordBits (w : NodeWord) : Nat := if w.marked then 10 else 9

/-- Bit times of words sent one after another. -/
def bitsOf (ws : List NodeWord) : Nat := (ws.map wordBits).sum

/-- Bit times of the answer window and of the quiet gap (R21). -/
def windowBits : Nat := 24
def gapBits : Nat := 4

/-! ### The course of a transaction (R28 to R31) -/

/-- What a node word, or the want of one, does to the transaction: it goes on, its answer window running out after so many
bit times, or it ends. -/
inductive Course where
  | goesOn (l : OnLine) (bits : Nat)
  | ends (l : OnLine) (o : TxnOutcome)
  deriving DecidableEq, Repr

/-- The number of data bytes a node may send (R30). -/
def Txn.dataLimit (t : Txn) : Nat :=
  match t.kind with
  | .read => t.count
  | .sense => 4
  | .write => 0
  | .poll => 0
  | .assign => 0

/-- The part itself sends the data bytes (R30). -/
def TxnKind.partSends : TxnKind → Bool
  | .write => true
  | .assign => true
  | .read => false
  | .sense => false
  | .poll => false

/-- The words that the part sends in the phase the transaction stands in: the select word in SELECT, the command in COMMAND,
the bytes of a WRITE or ASSIGN in DATA; in the others the node sends (R27 to R31). -/
def OnLine.partWords (l : OnLine) : List NodeWord :=
  match l.phase with
  | .select => [selectWord l.txn.address]
  | .command => l.txn.commandWords
  | .data => if l.txn.kind.partSends then l.txn.dataWords else []
  | .echo => []
  | .initialStatus => []
  | .endingStatus => []

/-- ECHO (R28). SELECT is the part's own sending and ends by itself (log entry 13). -/
def OnLine.echo (l : OnLine) (w : NodeWord) : Course :=
  if parityGood w && !w.marked && w.data.toNat == l.txn.address then
    .goesOn { l with phase := .command } (bitsOf l.txn.commandWords + windowBits)
  else .ends l .linkCheck

/-- The phase after a "go" (R29). -/
def TxnKind.afterGo : TxnKind → LinkPhase
  | .poll => .endingStatus
  | .read => .data
  | .write => .data
  | .sense => .data
  | .assign => .data

/-- INITIAL STATUS (R29). -/
def OnLine.initialStatus (l : OnLine) (w : NodeWord) : Course :=
  if parityGood w && !w.marked then
    let st := InitialStatus.ofByte w.data
    let l' := { l with
      initial := some st, attention := l.attention || st.attention
      downstreamChange := l.downstreamChange || st.downstreamChange }
    if st.go then
      .goesOn { l' with phase := l.txn.kind.afterGo }
        (if l.txn.kind.partSends then bitsOf l.txn.dataWords else windowBits)
    else .ends l' (.nodeStatus st)
  else .ends l .linkCheck

/-- The residual of a completion other than UNIT_CHECK (R31). -/
def OnLine.residual (l : OnLine) (short : Bool) : Nat :=
  match l.txn.kind with
  | .read => l.txn.count - l.received.length
  | .write => if short then l.txn.count else 0
  | .assign => if short then 1 else 0
  | .sense => 0
  | .poll => 0

/-- The outcome at a valid ending status (R31, R33). -/
def OnLine.outcome (l : OnLine) (c : Completion) : TxnOutcome :=
  let formed := fun (residual : Nat) =>
    if residual = 0 then TxnOutcome.accepted l.received else TxnOutcome.length residual l.received
  match c with
  | .unitCheck => .nodeStatus InitialStatus.ofUnitCheck
  | .complete => formed (l.residual false)
  | .short => formed (l.residual true)

/-- ENDING STATUS, also when it is sent early (R30, R31). -/
def OnLine.endingStatus (l : OnLine) (w : NodeWord) : Course :=
  if parityGood w && w.marked then
    match EndingStatus.ofByte w.data with
    | some st =>
      let l' := { l with
        ending := some st, attention := l.attention || st.attention
        downstreamChange := l.downstreamChange || st.downstreamChange }
      .ends l' (l'.outcome st.completion)
    | none => .ends l .linkCheck
  else .ends l .linkCheck

/-- DATA from the node (R30). -/
def OnLine.dataWord (l : OnLine) (w : NodeWord) : Course :=
  if !parityGood w then .ends l .linkCheck
  else if w.marked then l.endingStatus w
  else
    let l' := { l with received := l.received ++ [w.data] }
    .goesOn (if l.txn.dataLimit ≤ l'.received.length then { l' with phase := .endingStatus } else l') windowBits

/-- The part has sent what it had to send, and the transaction stands where the node's next word is due: SELECT is past in
ECHO, COMMAND in INITIAL STATUS, the data of a WRITE or ASSIGN in ENDING STATUS (R28 to R30, log entry 13). -/
def OnLine.sent (l : OnLine) : OnLine :=
  match l.phase with
  | .select => { l with phase := .echo }
  | .command => { l with phase := .initialStatus }
  | .data => if l.txn.kind.partSends then { l with phase := .endingStatus } else l
  | .echo => l
  | .initialStatus => l
  | .endingStatus => l

/-- A word of the node where it is due (R28 to R31). -/
def OnLine.word (l : OnLine) (w : NodeWord) : Course :=
  match l.sent.phase with
  | .select => l.sent.echo w
  | .echo => l.sent.echo w
  | .command => l.sent.initialStatus w
  | .initialStatus => l.sent.initialStatus w
  | .data => l.sent.dataWord w
  | .endingStatus => l.sent.endingStatus w

/-- No word within the answer window: NO_NODE in ECHO, TIMEOUT later (R28 to R31). -/
def OnLine.silence (l : OnLine) : TxnOutcome :=
  match l.sent.phase with
  | .select => .noNode
  | .echo => .noNode
  | .command => .timeout
  | .initialStatus => .timeout
  | .data => .timeout
  | .endingStatus => .timeout

/-! ### The line and the holding slot (R32, R35) -/

/-- The rate in force is taken from LINK_RATE at the start condition (R21), and the record of the transaction begun. -/
def State.startTxn (s : State) (t : Txn) : State :=
  s.modifyLink (fun l => { l with
    slot := none, rate := s.params.linkRate
    line := some {
      txn := t, phase := .select, received := [], initial := none, ending := none, attention := false
      downstreamChange := false, startedAt := s.now
      windowEnd := s.now + (bitsOf [selectWord t.address] + windowBits) * bitTime s.params.linkRate } })

/-- The line is free for a select word or a break: nothing on it, no quiet gap, no break (R35, R36). -/
def Link.free (l : Link) : Bool := l.line.isNone && l.gap.isNone && l.breakState == .none

/-- A requested break begins, or the slot's transaction goes on the line (R35, R36). -/
def State.useLine (s : State) : State :=
  if s.link.free then
    if s.link.breakRequested then
      s.modifyLink (fun l => { l with breakRequested := false, breakState := .low (s.now + Config.breakLow) })
    else
      match s.link.slot with
      | some t => s.startTxn t
      | none => s
  else s

/-- The transaction leaves the line and its quiet gap begins (R35). -/
def State.clearLine (s : State) : State :=
  s.modifyLink (fun l => { l with line := none, gap := some (s.now + l.bitTimes gapBits) })

/-- The link status flags (R39). -/
def Link.noteOutcome (l : Link) : TxnOutcome → Link
  | .linkCheck => { l with lineCheckSeen := true }
  | .timeout => { l with stallSeen := true }
  | .noNode => l
  | .nodeStatus _ => l
  | .length _ _ => l
  | .accepted _ => l
  | .linkReset => l

/-- A detach marks the transactions of its positions in the slot and on the line stale (R34). -/
def Txn.markStale (t : Txn) (gone : Nat → Bool) : Txn := if gone t.address then { t with stale := true } else t

def Link.markStale (l : Link) (gone : Nat → Bool) : Link :=
  { l with
    slot := l.slot.map (·.markStale gone)
    line := l.line.map (fun o => { o with txn := o.txn.markStale gone }) }

/-! ### The break (R36, R37) -/

/-- What a break takes from the slot goes back to its requester ungranted; an enumerator's and a translator's is dropped
(R5, R37, R114, R131). -/
def State.droppedByBreak (s : State) (t : Txn) : State :=
  match t.requester with
  | .enumerator => s
  | .translator => s
  | .scanner _ => s.scanDropped t
  | .engine => s.engineReturned t

/-- A break is requested: the slot is emptied first (R37). -/
def State.requestBreak (s : State) : State :=
  let s1 := s.modifyLink (fun l => { l with breakRequested := true, slot := none })
  match s.link.slot with
  | some t => s1.droppedByBreak t
  | none => s1

/-- A requested break that has not begun is cancelled (R18, R37). -/
def State.cancelBreak (s : State) : State := s.modifyLink (fun l => { l with breakRequested := false })

/-- RESTART (R39): line and slot are cut off with no outcome delivered, a requested break and both flags cleared; a break on
the line, the rate and a running quiet gap go on. -/
def State.restartLink (s : State) : State :=
  (match s.link.line with
    | some _ => s.clearLine
    | none => s).modifyLink (fun l => { l with
      slot := none, breakRequested := false, lineCheckSeen := false, stallSeen := false })

end Sys2Proof.Machine
end

