-- ==== Sys2Proof/Machine/Enumerator.lean ====
section
/-! DEFINITION. The chain enumerator: detach, miss counts and loss, full enumeration, growth, extension checks, halts,
DISCONNECT and RESTART (R5 to R19). -/

namespace Sys2Proof.Machine

def State.modifyEnum (s : State) (f : Enumerator → Enumerator) : State := { s with enumerator := f s.enumerator }

/-! ### Detach (R9) -/

/-- The enumerator's own part of a detach of positions j..k (R9). -/
def Enumerator.detach (e : Enumerator) (j : Nat) : Enumerator :=
  let gone := fun p => decide (j ≤ p ∧ p ≤ e.occupancy)
  { e with
    occupancy := j - 1
    miss := allPositions.foldl (fun m p => if gone p then m.set p 0 else m) e.miss
    pendingChecks := e.pendingChecks.filter (fun p => !gone p) }

/-- A detach of positions j..k with its cause, taken by the blocks in the order of R9; the FEED notice has its place before
the lamp check unit's CIRCUIT notices. DESIGN CHOICE (log entry 38): the POSITION notices of the detached positions stand first,
as R9 has them, also ahead of the engine's notice of a lower position whose state the detach changes, where R63 has ascending
position order. -/
def State.detach (s : State) (j : Nat) (cause : Cause) : State :=
  let k := s.enumerator.occupancy
  if k < j then s
  else
    let gone := fun p => decide (j ≤ p ∧ p ≤ k)
    let s1 := s.modifyEnum (·.detach j)
    let s2 := (positionsFromTo j k).foldl (fun s p => s.note (.position p .empty (some cause))) s1
    let s3 := s2.modifyLink (·.markStale gone)
    let s4 := (((s3.detachEngine gone).detachTranslator gone).detachScanner gone).detachFeed gone
    s4.markFeedPlace.detachLamps gone

/-! ### Abandoning work, miss counts, loss (R5, R7, R8) -/

/-- The current transaction is abandoned and the waits cancelled (R5). -/
def Enumerator.abandon (e : Enumerator) : Enumerator :=
  { e with request := .none, passWait := none, busyWait := none, cursor := none }

def Enumerator.addCheck (e : Enumerator) (p : Nat) : Enumerator :=
  { e with pendingChecks := insertAsc p e.pendingChecks }

/-- The enumerator's own work after the loss of position p (R8, steps 2 and 3). -/
def Enumerator.afterLoss (e : Enumerator) (p : Nat) : Enumerator :=
  let check := fun (e : Enumerator) => if 1 < p then e.addCheck (p - 1) else e
  let ended := fun (e : Enumerator) => check { e.abandon with state := .done }
  match e.state with
  | .assigning => ended e
  | .identifyingNode => ended e
  | .closing => ended e
  | .checkingDownstream => if p ≤ e.cursor.getD 0 then ended e else check e
  | .done => check e
  | .halted => e
  | .idle => e
  | .breaking => e

/-- Position p is lost (R8). -/
def State.lose (s : State) (p : Nat) : State := (s.detach p .nodeLost).modifyEnum (·.afterLoss p)

/-- The miss-count account of an occupied position (R7). -/
def State.countMiss (s : State) (p : Nat) (o : TxnOutcome) : State :=
  let put := fun (n : Nat) => s.modifyEnum (fun e => { e with miss := e.miss.set p n })
  let missed :=
    let n := s.enumerator.miss.get p + 1
    if n < 3 then put n else (put n).lose p
  if s.occupied p then
    match o with
    | .noNode => missed
    | .timeout => missed
    | .accepted _ => put 0
    | .nodeStatus _ => put 0
    | .length _ _ => put 0
    | .linkCheck => s
    | .linkReset => s
  else s

/-! ### Full enumeration (R10), DISCONNECT (R18), RESTART (R19) -/

/-- Work in hand is abandoned; pending checks and halt cause are cleared, attempts 0, no cursor (R10 step 1, R18). -/
def Enumerator.giveUp (e : Enumerator) : Enumerator :=
  { e.abandon with pendingChecks := [], haltCause := none, attempts := 0 }

/-- A full enumeration starts; in BREAKING a further start has no effect (R10). -/
def State.enumerate (s : State) : State :=
  if s.enumerator.state = .breaking then s
  else
    (((s.modifyEnum (·.giveUp)).detach 1 .reEnumerated).requestBreak).modifyEnum (fun e =>
      { e with state := .breaking, breakRequested := true })

/-- DISCONNECT (R18). -/
def State.disconnect (s : State) : State :=
  let s1 := s.modifyEnum (·.giveUp)
  let s2 :=
    if s.link.breakRequested then s1.cancelBreak.modifyEnum (fun e => { e with breakRequested := false }) else s1
  (s2.detach 1 .uncoupled).modifyEnum (fun e => { e with state := .idle })

/-- RESTART: the power-on values (R19). -/
def State.restartEnumerator (s : State) : State := { s with enumerator := Enumerator.powerOn }

/-! ### Growth and checks (R11 to R17) -/

/-- A transaction is requested in a state, the attempts as they stand. -/
def Enumerator.ask (e : Enumerator) (st : EnumState) : Enumerator := { e with state := st, request := .awaiting }

/-- A transaction of a new kind or for a new cursor is requested: attempts 0 (R15). -/
def Enumerator.askNew (e : Enumerator) (st : EnumState) : Enumerator := { e.ask st with attempts := 0 }

/-- Entry to DONE: nothing in hand. -/
def Enumerator.finish (e : Enumerator) : Enumerator := { e.abandon with state := .done }

/-- The cursor, where one is due. -/
def Enumerator.at (e : Enumerator) : Nat := e.cursor.getD 0

/-- The lowest pending check is taken up in DONE (R16). -/
def Enumerator.takeUp (e : Enumerator) : Enumerator :=
  match e.state, e.pendingChecks with
  | .done, q :: rest => ({ e with cursor := some q, pendingChecks := rest }).askNew .checkingDownstream
  | _, _ => e

/-- The break has ended (R11); in any other state than BREAKING nothing follows (R18). -/
def Enumerator.breakEnded (e : Enumerator) : Enumerator :=
  match e.state with
  | .breaking => ({ e with breakRequested := false, cursor := some 1 }).ask .assigning
  | .idle => { e with breakRequested := false }
  | .assigning => { e with breakRequested := false }
  | .identifyingNode => { e with breakRequested := false }
  | .checkingDownstream => { e with breakRequested := false }
  | .closing => { e with breakRequested := false }
  | .done => { e with breakRequested := false }
  | .halted => { e with breakRequested := false }

/-- The pass-through wait expires: the next address is offered (R14). -/
def Enumerator.passOver (e : Enumerator) : Enumerator :=
  ({ e with passWait := none, cursor := some (e.at + 1) }).askNew .assigning

/-- The busy wait expires: the same transaction is requested again (R15). -/
def Enumerator.busyOver (e : Enumerator) : Enumerator := { e with busyWait := none, request := .awaiting }

/-- The enumerator halts with a cause (R15). -/
def State.halt (s : State) (c : Cause) : State :=
  let s1 := if s.enumerator.state = .identifyingNode then s.identFailed s.enumerator.at else s
  (s1.note (.chainHalted c)).modifyEnum (fun e => { e.abandon with state := .halted, haltCause := some c })

/-- A failed attempt: the transaction is requested again at once below 3 attempts, else the enumerator halts (R15). -/
def State.failedAttempt (s : State) (c : Cause) : State :=
  let n := s.enumerator.attempts + 1
  let s1 := s.modifyEnum (fun e => { e with attempts := n })
  if n < 3 then s1.modifyEnum (fun e => { e with request := .awaiting }) else s1.halt c

/-- A BUSY answer: the transaction waits 10 ms below 3 attempts, else the enumerator halts (R15). -/
def State.busyAttempt (s : State) : State :=
  let n := s.enumerator.attempts + 1
  let s1 := s.modifyEnum (fun e => { e with attempts := n })
  if n < 3 then s1.modifyEnum (fun e => { e with busyWait := some (s.now + Config.busyWait) })
  else s1.halt .nodeStatus

/-- An outcome that gives no usable result (R15). -/
def State.enumFailure (s : State) (o : TxnOutcome) : State :=
  match o with
  | .noNode => s.failedAttempt .noNode
  | .linkCheck => s.failedAttempt .linkCheck
  | .timeout => s.failedAttempt .timeout
  | .nodeStatus st => if st.busyAlone then s.busyAttempt else s.halt .nodeStatus
  | .length _ _ => s.halt .length
  | .linkReset => s.halt .linkReset
  | .accepted _ => s

/-- The position at the cursor becomes occupied (R6, R11). -/
def State.occupy (s : State) : State :=
  let c := s.enumerator.at
  (s.modifyEnum (fun e =>
    ({ e with occupancy := c, miss := e.miss.set c 0 }).askNew .identifyingNode)).identifying c

/-- The outcome of an ASSIGN (R11). -/
def State.assignEnded (s : State) (o : TxnOutcome) : State :=
  match o with
  | .accepted _ => s.occupy
  | .noNode => s.modifyEnum (·.finish)
  | .linkCheck => s.enumFailure o
  | .timeout => s.enumFailure o
  | .nodeStatus _ => s.enumFailure o
  | .length _ _ => s.enumFailure o
  | .linkReset => s.enumFailure o

/-- The identity in the four bytes of point 0 (R187); a point count of 0 is none (R12). -/
def identityOf : List Byte → Option Identity
  | [lo, hi, rev, n] =>
    if n.toNat = 0 then none
    else some { typeCode := (halfOf lo hi).toNat, revision := rev.toNat, pointCount := n.toNat }
  | _ => none

/-- The outcome of an identity read (R12). -/
def State.identityEnded (s : State) (o : TxnOutcome) : State :=
  let c := s.enumerator.at
  let next := fun (s : State) => s.modifyEnum (·.askNew .checkingDownstream)
  match o with
  | .accepted bs =>
    match identityOf bs with
    | some i => next (s.takeIdentity c i)
    | none => next (s.identFailed c)
  | .length _ _ => next (s.identFailed c)
  | .nodeStatus st => if st.busyAlone then s.enumFailure o else next (s.identFailed c)
  | .noNode => s.enumFailure o
  | .linkCheck => s.enumFailure o
  | .timeout => s.enumFailure o
  | .linkReset => s.enumFailure o

/-- The downstream state read at position q (R13, R17): `behind` says whether a trailer is coupled behind it. -/
def State.downstreamRead (s : State) (q : Nat) (behind : Bool) : State :=
  let k := s.enumerator.occupancy
  let done := fun (s : State) => s.modifyEnum (·.finish)
  if behind then
    if q < k then done s
    else if q < 4 then s.modifyEnum (·.askNew .closing)
    else done (s.note .chainTooLong)
  else if q < k then done (s.detach (q + 1) .truncated)
  else done s

/-- The outcome of a downstream-state read (R13, R17). -/
def State.checkEnded (s : State) (o : TxnOutcome) : State :=
  match o with
  | .accepted bs => s.downstreamRead s.enumerator.at (bs.any (· != 0))
  | .noNode => s.enumFailure o
  | .linkCheck => s.enumFailure o
  | .timeout => s.enumFailure o
  | .nodeStatus _ => s.enumFailure o
  | .length _ _ => s.enumFailure o
  | .linkReset => s.enumFailure o

/-- The outcome of a pass-through write (R14). -/
def State.closeEnded (s : State) (o : TxnOutcome) : State :=
  match o with
  | .accepted _ => s.modifyEnum (fun e => { e with passWait := some (s.now + Config.passThroughWait) })
  | .noNode => s.enumFailure o
  | .linkCheck => s.enumFailure o
  | .timeout => s.enumFailure o
  | .nodeStatus _ => s.enumFailure o
  | .length _ _ => s.enumFailure o
  | .linkReset => s.enumFailure o

/-- An outcome reaches the enumerator: only its current transaction's is taken, by its state (R5, R11 to R15). -/
def State.enumEnded (s : State) (e : Ended) : State :=
  if e.txn.stale || s.enumerator.request != .granted e.txn.serial then s
  else
    let s1 := s.modifyEnum (fun e => { e with request := .none })
    match s.enumerator.state with
    | .assigning => s1.assignEnded e.outcome
    | .identifyingNode => s1.identityEnded e.outcome
    | .checkingDownstream => s1.checkEnded e.outcome
    | .closing => s1.closeEnded e.outcome
    | .idle => s1
    | .breaking => s1
    | .done => s1
    | .halted => s1

/-- A granted transaction comes back ungranted by RESET_LINK: the enumerator goes on waiting for a grant (R19). DESIGN CHOICE
(log entry 36): one that the enumerator has abandoned since its grant, after a loss (R8) or DISCONNECT (R18), is dropped. -/
def State.enumReturned (s : State) (t : Txn) : State :=
  if s.enumerator.request = .granted t.serial then s.modifyEnum (fun e => { e with request := .awaiting }) else s

/-- A DOWNSTREAM_CHANGE indication of position q (R16). -/
def State.takeDownstream (s : State) (q : Nat) : State :=
  let add := s.modifyEnum (·.addCheck q)
  if s.occupied q then
    match s.enumerator.state with
    | .assigning => add
    | .identifyingNode => add
    | .checkingDownstream => add
    | .closing => add
    | .done => add
    | .halted => s
    | .idle => s
    | .breaking => s
  else s

/-- What the enumerator's level-1 request asks for: address, kind, point, count, bytes (R11 to R14). -/
def Enumerator.wants (e : Enumerator) : Nat × TxnKind × Nat × Nat × List Byte :=
  match e.state with
  | .assigning => (0, .assign, 0, 1, [byteOf e.at])
  | .identifyingNode => (e.at, .read, 0, 4, [])
  | .closing => (e.at, .write, 1, 1, [1])
  | .checkingDownstream => (e.at, .read, 4, 1, [])
  | .idle => (e.at, .read, 4, 1, [])
  | .breaking => (e.at, .read, 4, 1, [])
  | .done => (e.at, .read, 4, 1, [])
  | .halted => (e.at, .read, 4, 1, [])

end Sys2Proof.Machine
end

