-- ==== Sys2Proof/Machine/Arbiter.lean ====
section
/-! DEFINITION. The end of a transaction and what it hands on (R34), the returns of RESET_LINK (R38), the arbiter's grants
(R40 to R43), and the close of an event. -/

namespace Sys2Proof.Machine

/-! ### The end of a transaction (R34) -/

/-- A write's outcome reaches the translator: a stale one is discarded (R112 to R114); a refusal is reported to the engine
(R113, R115). -/
def State.writeEnded (s : State) (e : Ended) : State :=
  let k : PointKey := ⟨e.txn.address, e.txn.point⟩
  if e.txn.stale then s
  else
    match e.outcome with
    | .accepted _ => s.writeAccepted k
    | .nodeStatus st =>
      if st.unitCheck then (s.writeRefused k).trafficFault k.pos .unitCheck
      else if st.pointInvalid then (s.writeRefused k).trafficFault k.pos .pointInvalid
      else s.writeFailed k
    | .noNode => s.writeFailed k
    | .linkCheck => s.writeFailed k
    | .timeout => s.writeFailed k
    | .length _ _ => s.writeFailed k
    | .linkReset => s.writeFailed k

/-- Step 3: the outcome goes to the requester. -/
def State.deliver (s : State) (e : Ended) : State :=
  match e.txn.requester with
  | .enumerator => s.enumEnded e
  | .translator => s.writeEnded e
  | .scanner w => s.scanEnded w e
  | .engine => s.engineEnded e

/-- The transaction is the scanner's own change-list read (R125). -/
def Txn.changeListRead (t : Txn) : Bool :=
  match t.requester with
  | .scanner (.changeList _) => true
  | .scanner (.poll _) => false
  | .scanner (.initialRead _ _) => false
  | .enumerator => false
  | .translator => false
  | .engine => false

/-- The transaction is the enumerator's own downstream-state read (R16). -/
def Txn.downstreamRead (t : Txn) : Bool := t.requester == .enumerator && t.kind == .read && t.point == 4

/-- Step 2: ATTENTION to the scanner, but for its own change-list read (R125). -/
def State.handAttention (s : State) (e : Ended) : State :=
  if e.attention && !e.txn.changeListRead then s.takeAttention e.txn.address else s

/-- Step 2: DOWNSTREAM_CHANGE to the enumerator; from its own downstream-state read only what the ending status showed
(R16). -/
def State.handDownstream (s : State) (e : Ended) : State :=
  if e.downstreamChange && (!e.txn.downstreamRead || e.endingShowedChange) then s.takeDownstream e.txn.address else s

/-- Step 1: outcomes to address 0 and of stale transactions are not counted (R7). -/
def State.handMiss (s : State) (t : Txn) (o : TxnOutcome) : State :=
  if t.stale || t.address == 0 then s else s.countMiss t.address o

/-- The stale mark as step 1 leaves it: a loss there marks the transaction still on the line (R34). -/
def State.staleOnLine (s : State) (t : Txn) : Bool :=
  match s.link.line with
  | some o => o.txn.stale
  | none => t.stale

/-- The transaction on the line ends with an outcome; what it produced is handed on in the three steps of R34, and the link
status flags are set (R39). -/
def State.endTransaction (s : State) (l : OnLine) (o : TxnOutcome) : State :=
  let s1 := (s.modifyLink (·.noteOutcome o)).handMiss l.txn o
  let e : Ended :=
    { txn := { l.txn with stale := s1.staleOnLine l.txn }, outcome := o, initial := l.initial, ending := l.ending
      attention := l.attention, downstreamChange := l.downstreamChange }
  let s2 := s1.clearLine
  let s3 := if e.txn.stale then s2 else (s2.handAttention e).handDownstream e
  s3.deliver e

/-! ### RESET_LINK (R38) -/

/-- The slot's transaction goes back ungranted; a detached position's write is dropped (R19, R84, R114, R131). -/
def State.returned (s : State) (t : Txn) : State :=
  match t.requester with
  | .enumerator => s.enumReturned t
  | .translator => if t.stale then s else s.writeReturned ⟨t.address, t.point⟩
  | .scanner w => s.scanReturned w t
  | .engine => s.engineReturned t

def State.cutLine (s : State) : State :=
  match s.link.line with
  | some l => s.endTransaction l .linkReset
  | none => s

def State.emptySlot (s : State) : State :=
  match s.link.slot with
  | some t => (s.modifyLink (fun l => { l with slot := none })).returned t
  | none => s

/-- RESET_LINK (R38): the line, the slot, the two flags. -/
def State.resetLink (s : State) : State :=
  s.cutLine.emptySlot.modifyLink (fun l => { l with lineCheckSeen := false, stallSeen := false })

/-! ### Grants (R40 to R43) -/

/-- A request that stands, by its requester. -/
inductive Standing where
  | enumerator
  | write (r : OutRec)
  | scan (w : ScanWork)
  | step (pos : Nat)
  deriving DecidableEq, Repr

/-- The order in which level 4 considers positions (R42). -/
def roundRobin (pointer : Nat) : List Nat := (upFrom pointer 4).map (fun p => if 4 < p then p - 4 else p)

/-- The position whose level-4 request is granted next (R42). -/
def State.nextStep (s : State) : Option Nat :=
  (roundRobin s.arbiter.pointer).find? (fun p => (s.pcr p).phase == .awaitGrant)

/-- The request standing at each level (R40). -/
def State.standing (s : State) : Nat → Option Standing
  | 1 => if s.enumerator.request = .awaiting then some .enumerator else none
  | 2 => (s.queueHead .safety).map .write
  | 3 => if s.arbiter.scanOverdue then s.scanner.request.map .scan else none
  | 4 => s.nextStep.map .step
  | 5 => (s.queueHead .comfort).map .write
  | 6 => if s.arbiter.scanOverdue then none else s.scanner.request.map .scan
  | _ => none

def levels : List Nat := [1, 2, 3, 4, 5, 6]

/-- The standing request of the highest level that has one (R41). -/
def State.nextGrant (s : State) : Option Standing := levels.findSome? s.standing

/-- The conditions of a grant (R41). -/
def State.mayGrant (s : State) : Bool :=
  s.link.slot.isNone && !s.link.breakRequested && s.link.breakState == .none &&
    match s.link.line with
    | none => true
    | some l => l.phase == .endingStatus

/-- The READ, POLL or change-list read of a piece of the scanner's work (R122). -/
def ScanWork.txn (w : ScanWork) (serial : Nat) : Txn :=
  match w with
  | .changeList p =>
    { serial := serial, requester := .scanner w, address := p, kind := .read, point := 2, count := 6, send := []
      stale := false }
  | .poll p =>
    { serial := serial, requester := .scanner w, address := p, kind := .poll, point := 0, count := 0, send := []
      stale := false }
  | .initialRead p a =>
    { serial := serial, requester := .scanner w, address := p, kind := .read, point := a, count := 2, send := []
      stale := false }

/-- The transaction a grant fixes (R35, R40). -/
def State.txnFor (s : State) (g : Standing) (serial : Nat) : Txn :=
  match g with
  | .enumerator =>
    let (address, kind, point, count, send) := s.enumerator.wants
    { serial := serial, requester := .enumerator, address := address, kind := kind, point := point, count := count
      send := send, stale := false }
  | .write r =>
    { serial := serial, requester := .translator, address := r.key.pos, kind := .write, point := r.key.point
      count := 1, send := [byteOf r.applied], stale := false }
  | .scan w => w.txn serial
  | .step p =>
    let (kind, point, count, send) := s.engineWants p
    { serial := serial, requester := .engine, address := p, kind := kind, point := point, count := count
      send := send, stale := false }

/-- What the grant does at its requester, and to the pointer (R42, R76, R111, R122). -/
def State.granted (s : State) (g : Standing) (serial : Nat) : State :=
  match g with
  | .enumerator => s.modifyEnum (fun e => { e with request := .granted serial })
  | .write r => s.grantWrite r
  | .scan w => s.scanGranted serial w
  | .step p =>
    { s.engineGranted p serial with arbiter := { s.arbiter with pointer := if p = 4 then 1 else p + 1 } }

/-- A grant is made: the transaction, its contents fixed, enters the holding slot (R35, R41). -/
def State.grant (s : State) (g : Standing) : State :=
  let serial := s.link.nextSerial
  (s.modifyLink (fun l => { l with
    slot := some (s.txnFor g serial), nextSerial := serial + 1 })).granted g serial

/-- The arbiter grants when it may (R41). -/
def State.arbitrate (s : State) : State :=
  if s.mayGrant then
    match s.nextGrant with
    | some g => s.grant g
    | none => s
  else s

/-! ### The close of an event (log entry 4) -/

/-- What the event's changes make possible on the line: the slot or a break goes on it, a grant is made, and a granted
transaction that finds the line free goes on it (R35, R36, R41). -/
def State.serveLine (s : State) : State := s.useLine.arbitrate.useLine

/-- The engine's remaining work, the enumerator's next check, the line, the notices. -/
def State.closeEvent (s : State) : State := (((s.settleJobs).modifyEnum (·.takeUp)).serveLine).placeNotices

/-- One event: its changes, made between its opening and its close. -/
def State.event (s : State) (change : State → State) : State := (change s.openEvent).closeEvent

/-- An event that is no request: an idle transmitter takes a frame at its end (R182, log entry 9). -/
def State.happens (s : State) (change : State → State) : State := (s.event change).transmit

end Sys2Proof.Machine
end

