-- ==== Sys2Proof/Machine/Requests.lean ====
section
/-! DEFINITION. The management unit (R164 to R176): what each request checks, does and answers. The exec of each request
command stands in Machine/Management.lean; a request received byte by byte runs the same definitions. -/

namespace Sys2Proof.Machine

/-! ### Answering (R164, R165) -/

/-- A result, the reply data on OK, and the state the request leaves. -/
structure Answer where
  result : Result
  data : List Byte
  state : State

/-- A refused request changes nothing and carries no data (R164). -/
def State.refuse (s : State) (r : Result) : Answer := ⟨r, [], s⟩

def State.accept (s : State) (data : List Byte) : Answer := ⟨.ok, data, s⟩

/-- The reply of an answer is placed and an idle transmitter takes a frame (R164, R182). -/
def Answer.reply (a : Answer) (tag code : Byte) : State :=
  (a.state.modifyCab (·.placeReply { tag := tag, code := code, result := a.result, data := a.data })).transmit

def CabPort.full (c : CabPort) : Bool := decide (Config.replyCapacity ≤ c.replies.length)

/-- A request taken: executed and answered, or dropped when the Reply Queue holds four replies (R164, R179). -/
def State.request (s : State) (tag code : Byte) (act : State → Answer) : State :=
  if s.cab.full then s.modifyCab (fun c => { c with requestsDropped := true })
  else (act s).reply tag code

/-- A request that makes its changes only when its answer is OK (R164): the changes are one event. -/
def State.tryEvent (s : State) (act : State → Result × State) : Answer :=
  match act s.openEvent with
  | (.ok, s') => s'.closeEvent.accept []
  | (r, _) => s.refuse r

/-- A position number outside 1..4 is refused first (R166, R174). -/
def State.atPosition (s : State) (pos : Byte) (act : Nat → Answer) : Answer :=
  if positionOk pos.toNat then act pos.toNat else s.refuse .badValue

/-! ### Identity, status, parameters (R167, R168) -/

def State.identifyAnswer (s : State) : Answer := s.accept identifyData

/-- The snapshot shows the flags as they stand; the read clears the four of the cab port (R167). -/
def State.statusAnswer (s : State) : Answer := (s.modifyCab CabPort.clearFlags).accept s.statusData

/-- The immediate effect of a stored parameter (R168). -/
def State.paramStored (s : State) (id v : Nat) : State :=
  let s1 := { s with params := s.params.set id v }
  match id with
  | 1 => if v = 1 then s.event (fun t => { t with params := s.params.set id v }.autoStartAll) else s1
  | 2 => s.event (fun t => { t with params := s.params.set id v }.feedChanged)
  | _ => s1

def State.setParamAnswer (s : State) (id value : Nat) : Answer :=
  match paramRange id with
  | none => s.refuse .badValue
  | some (lo, hi) =>
    let v := clamp lo hi value
    (s.paramStored id v).accept (twoBytes v)

def State.getParamAnswer (s : State) (id : Nat) : Answer :=
  match s.params.get id with
  | none => s.refuse .badValue
  | some v => s.accept (twoBytes v)

/-! ### Profile store, step store, table reads (R45 to R49, R52, R60, R170) -/

/-- Storing a record with the fallback mark clears it everywhere else (R46). -/
def State.storeProfile (s : State) (slot : Nat) (r : Profile) : State :=
  let others := if r.fallback then s.profiles.map (fun q => { q with fallback := false }) else s.profiles
  { s with profiles := others.set slot r }

/-- R60: the slot itself, or the slot whose mark would be cleared, is in use. -/
def State.profileProtected (s : State) (slot : Nat) (fallback : Bool) : Bool :=
  s.slotInUse slot ||
    (fallback && (List.range Config.profileSlots).any (fun q =>
      q != slot && (s.profile q).fallback && s.slotInUse q))

def State.loadProfileAnswer (s : State) (slot : Byte) (r : RawProfile) : Answer :=
  if profileWrong slot.toNat r then s.refuse .badValue
  else if s.profileProtected slot.toNat r.fallback then s.refuse .inUse
  else (s.event (fun s => (s.storeProfile slot.toNat (profileRecord r)).rematchAll)).accept [slot]

def State.clearProfileAnswer (s : State) (slot : Byte) : Answer :=
  if Config.profileSlots ≤ slot.toNat then s.refuse .badValue
  else if s.slotInUse slot.toNat then s.refuse .inUse
  else (s.event (fun s => (s.storeProfile slot.toNat Profile.invalid).rematchAll)).accept []

/-- The stored forms of all descriptors, or none when one is refused (R52, R58, R59). -/
def storedSteps : List RawStep → Option (List Descriptor)
  | [] => some []
  | d :: ds =>
    match storedStep d, storedSteps ds with
    | some x, some xs => some (x :: xs)
    | _, _ => none

/-- Descriptors at an index and the indices after it. -/
def putSteps (store : List Descriptor) (i : Nat) : List Descriptor → List Descriptor
  | [] => store
  | d :: ds => putSteps (store.set i d) (i + 1) ds

def State.loadStepsAnswer (s : State) (first : Half) (ds : List RawStep) : Answer :=
  let i := first.toNat
  if ds.length = 0 ∨ 3 < ds.length ∨ Config.stepIndices < i + ds.length then s.refuse .badValue
  else
    match storedSteps ds with
    | none => s.refuse .badValue
    | some xs =>
      if (upFrom i ds.length).any s.stepInUse then s.refuse .inUse
      else ({ s with steps := putSteps s.steps i xs }).accept (twoBytes i ++ [byteOf ds.length])

/-- An entry, or NOT_FOUND beyond the entries held (R170). -/
def State.entryAnswer (s : State) (entry : Option (List Byte)) : Answer :=
  match entry with
  | some bs => s.accept bs
  | none => s.refuse .notFound

def State.mapEntryBytes (s : State) (e : MapEntry) : List Byte :=
  e.bytes (match e.target with
    | .circuit _ => none
    | .point k => s.findOut k)

def State.readEntryAnswer (s : State) (table i : Nat) : Answer :=
  match table with
  | 0 => s.entryAnswer ((s.profiles[i]?).map (·.bytes))
  | 1 => s.entryAnswer ((s.steps[i]?).map (·.bytes))
  | 2 => s.entryAnswer ((s.translator.map[i]?).map s.mapEntryBytes)
  | 3 => s.entryAnswer ((s.scanner.map[i]?).map (·.bytes))
  | 4 => s.entryAnswer ((s.lamps.roll[i]?).map (·.bytes))
  | _ => s.refuse .badValue

/-! ### Binds (R171, R172) -/

/-- The target's position is not occupied (R171, step 3). -/
def State.targetAbsent (s : State) (t : Target) : Bool :=
  match t with
  | .circuit _ => false
  | .point k => !s.occupied k.pos

/-- The class and nominal current of a bind: not used and not examined for a circuit, where the reply's nominal current is
sent as 0 (R171, R184). -/
def bindFields (t : Target) (cls nominal : Nat) : Option (OutClass × Nat) :=
  match t with
  | .circuit _ => some (.safety, 0)
  | .point _ => (OutClass.ofCode cls).map (fun c => (c, clamp 0 4095 nominal))

def State.bindFunctionAnswer (s : State) (code kind place point mode param cls nominal : Nat) : Answer :=
  if Config.functionCodes ≤ code then s.refuse .badValue
  else
    match readTarget kind place point, MapMode.ofCode mode with
    | some t, some m =>
      match bindFields t cls nominal with
      | none => s.refuse .badValue
      | some (c, n) =>
        let e : MapEntry := { code := code, target := t, mode := m, param := mapParam m param, owner := 0 }
        if s.targetAbsent t then s.refuse .notPresent
        else if s.bindFull e then s.refuse .tableFull
        else (s.event (fun s => s.bind e c n)).accept (twoBytes n ++ [byteOf e.param])
    | _, _ => s.refuse .badValue

def State.unbindFunctionAnswer (s : State) (code kind place point : Nat) : Answer :=
  if Config.functionCodes ≤ code then s.refuse .badValue
  else
    match readTarget kind place point with
    | none => s.refuse .badValue
    | some t =>
      if s.targetAbsent t then s.refuse .notPresent
      else if s.translator.map.any (fun e => e.same code t) then
        (s.event (fun s => s.unbind code t)).accept []
      else s.refuse .notFound

def State.bindReportAnswer (s : State) (pos point code filter threshold : Nat) : Answer :=
  match Filter.ofCode filter with
  | none => s.refuse .badValue
  | some f =>
    if positionOk pos && inputPointOk point && decide (code < Config.reportCodes) then
      let k : PointKey := ⟨pos, point⟩
      let t := filterThreshold f threshold
      if !s.occupied pos then s.refuse .notPresent
      else if s.reportFull k then s.refuse .tableFull
      else (s.bindReport { key := k, code := code, filter := f, threshold := t, last := none, owner := 0 }).accept
        (twoBytes t)
    else s.refuse .badValue

def State.unbindReportAnswer (s : State) (pos point : Nat) : Answer :=
  if positionOk pos && inputPointOk point then
    if !s.occupied pos then s.refuse .notPresent
    else if (s.findReport ⟨pos, point⟩).isNone then s.refuse .notFound
    else (s.unbindReport ⟨pos, point⟩).accept []
  else s.refuse .badValue

/-! ### Chain and runs (R66, R90 to R95, R173, R174) -/

def State.anyRunning (s : State) : Bool := allPositions.any (fun p => (s.pcr p).state.running)

def State.enumerateAnswer (s : State) (force : Nat) : Answer :=
  if 1 < force then s.refuse .badValue
  else if !s.coupling.presence then s.refuse .notPresent
  else if s.anyRunning && force == 0 then s.refuse .wrongState
  else (s.event (fun s => s.stopAllRuns.enumerate)).accept []

/-- Slot 255 names none (R185). -/
def slotNamed (slot : Byte) : Option Nat := if slot.toNat = 255 then none else some slot.toNat

def State.startAnswer (s : State) (pos slot : Byte) : Answer :=
  s.atPosition pos (fun p => s.tryEvent (fun s => s.startRequest p (slotNamed slot)))

def State.holdAnswer (s : State) (pos : Byte) : Answer :=
  s.atPosition pos (fun p =>
    match s.holdRun p with
    | (.ok, s') => s'.accept []
    | (r, _) => s.refuse r)

def State.resumeAnswer (s : State) (pos : Byte) : Answer :=
  s.atPosition pos (fun p => s.tryEvent (fun s => s.resumeRun p))

def State.abortAnswer (s : State) (pos : Byte) : Answer :=
  s.atPosition pos (fun p => s.tryEvent (fun s => s.abortRun p))

def State.readContextAnswer (s : State) (pos : Byte) : Answer :=
  s.atPosition pos (fun p => s.accept (s.contextData p))

/-- The field a WRITE_CONTEXT names, in HELD (R95): 1 the step index, 2 V, 3 X; the value is read signed for X (R185). -/
def State.writeField (s : State) (p field : Nat) (value : Half) : Answer :=
  match field with
  | 1 =>
    if (s.runProfile p).inRange value.toNat then
      (s.modifyPcr p (fun x => { x with stepIndex := some value.toNat })).accept (twoBytes value.toNat)
    else s.refuse .badValue
  | 2 => (s.modifyPcr p (fun x => { x with v := value.toNat })).accept (twoBytes value.toNat)
  | 3 =>
    let x := clampInt (-128) 127 value.toInt
    (s.modifyPcr p (fun y => { y with x := x })).accept (signedTwoBytes x)
  | _ => s.refuse .badValue

def State.writeContextAnswer (s : State) (pos field : Byte) (value : Half) : Answer :=
  s.atPosition pos (fun p =>
    match (s.pcr p).state with
    | .held => s.writeField p field.toNat value
    | .empty => s.refuse .notPresent
    | .identifying => s.refuse .wrongState
    | .waiting => s.refuse .wrongState
    | .unprofiled => s.refuse .wrongState
    | .bringingUp => s.refuse .wrongState
    | .ready => s.refuse .wrongState
    | .degraded => s.refuse .wrongState
    | .failed => s.refuse .wrongState)

/-! ### Link and part resets (R38, R175, R176) -/

def State.resetLinkAnswer (s : State) : Answer := (s.event State.resetLink).accept []

/-- The cab port under RESTART: queues emptied, flags clear; receiver and a frame being sent stay (R183). -/
def CabPort.restart (c : CabPort) : CabPort :=
  { c with replies := [], notices := [], reports := [], requestsDropped := false, noticesLost := false
           reportsLost := false, frameError := false }

/-- Every block clears its own state, and the circuits are derived from the kept entries (R176). -/
def State.clearBlocks (s : State) : State :=
  let s1 := s.restartLink.restartEnumerator.restartEngine.restartScanner
  let s2 := { s1 with
    arbiter := Arbiter.powerOn
    translator := s1.translator.restart
    feed := Feed.start s1.feed.zone
    lamps := Lamps.start s1.now s1.lamps.sensed s1.lamps.readings
    cab := s1.cab.restart }
  { allCircuits.foldl State.deriveCircuit s2 with ev := EventWork.none }

/-- RESTART: no notice is placed for what it clears; with the connector present a full enumeration starts (R19, R176). -/
def State.restartPart (s : State) : State :=
  let s1 := s.clearBlocks
  (if s1.coupling.presence then s1.enumerate else s1).serveLine

def State.restartAnswer (s : State) : Answer := s.restartPart.accept []

end Sys2Proof.Machine
end

