-- ==== Sys2Proof/Machine/Management.lean ====
section
/-! DEFINITION. The management requests as commands (Table 10-1). A request command stands for the second check byte of its
frame: the receiver hunts again, and the request is executed and answered, or dropped when four replies wait (R164, R179, log
entry 12). -/

namespace Sys2Proof.Machine

/-- The frame has been taken: the receiver is HUNTING (R178). -/
def State.heard (s : State) : State := s.modifyCab (fun c => { c with gathered := [] })

/-- IDENTIFY (R167). -/
def State.doIdentify (s : State) (tag : Byte) : State :=
  s.request tag 1 State.identifyAnswer

/-- GET_STATUS (R167). -/
def State.doGetStatus (s : State) (tag : Byte) : State :=
  s.request tag 2 State.statusAnswer

/-- SET_PARAM (R168). -/
def State.doSetParam (s : State) (tag id : Byte) (value : Half) : State :=
  s.request tag 3 (·.setParamAnswer id.toNat value.toNat)

/-- GET_PARAM (R168). -/
def State.doGetParam (s : State) (tag id : Byte) : State :=
  s.request tag 4 (·.getParamAnswer id.toNat)

/-- LOAD_PROFILE (R45, R46, R49, R169). -/
def State.doLoadProfile (s : State) (tag slot : Byte) (record : RawProfile) : State :=
  s.request tag 5 (·.loadProfileAnswer slot record)

/-- CLEAR_PROFILE (R47, R49, R169). -/
def State.doClearProfile (s : State) (tag slot : Byte) : State :=
  s.request tag 6 (·.clearProfileAnswer slot)

/-- LOAD_STEPS (R52, R58, R59, R169). -/
def State.doLoadSteps (s : State) (tag : Byte) (first : Half) (descriptors : List RawStep) : State :=
  s.request tag 7 (·.loadStepsAnswer first descriptors)

/-- READ_ENTRY (R170). -/
def State.doReadEntry (s : State) (tag table : Byte) (index : Half) : State :=
  s.request tag 8 (·.readEntryAnswer table.toNat index.toNat)

/-- BIND_FUNCTION (R100, R104, R171). -/
def State.doBindFunction (s : State) (tag code kind place point mode : Byte) (param : Half) (cls : Byte) (nominal : Half) : State :=
  s.request tag 9 (·.bindFunctionAnswer code.toNat kind.toNat place.toNat point.toNat mode.toNat param.toNat cls.toNat
    nominal.toNat)

/-- UNBIND_FUNCTION (R101, R106, R171). -/
def State.doUnbindFunction (s : State) (tag code kind place point : Byte) : State :=
  s.request tag 10 (·.unbindFunctionAnswer code.toNat kind.toNat place.toNat point.toNat)

/-- BIND_REPORT (R117, R172). -/
def State.doBindReport (s : State) (tag pos point code filter : Byte) (threshold : Half) : State :=
  s.request tag 11 (·.bindReportAnswer pos.toNat point.toNat code.toNat filter.toNat threshold.toNat)

/-- UNBIND_REPORT (R118, R172). -/
def State.doUnbindReport (s : State) (tag pos point : Byte) : State :=
  s.request tag 12 (·.unbindReportAnswer pos.toNat point.toNat)

/-- ENUMERATE (R10, R173). -/
def State.doEnumerate (s : State) (tag force : Byte) : State :=
  s.request tag 13 (·.enumerateAnswer force.toNat)

/-- START (R50, R66, R67, R174). -/
def State.doStart (s : State) (tag pos slot : Byte) : State :=
  s.request tag 14 (·.startAnswer pos slot)

/-- HOLD (R90, R174). -/
def State.doHold (s : State) (tag pos : Byte) : State :=
  s.request tag 15 (·.holdAnswer pos)

/-- RESUME (R92, R174). -/
def State.doResume (s : State) (tag pos : Byte) : State :=
  s.request tag 16 (·.resumeAnswer pos)

/-- ABORT (R93, R174). -/
def State.doAbort (s : State) (tag pos : Byte) : State :=
  s.request tag 17 (·.abortAnswer pos)

/-- READ_CONTEXT (R94, R174). -/
def State.doReadContext (s : State) (tag pos : Byte) : State :=
  s.request tag 18 (·.readContextAnswer pos)

/-- WRITE_CONTEXT (R95, R174). -/
def State.doWriteContext (s : State) (tag pos field : Byte) (value : Half) : State :=
  s.request tag 19 (·.writeContextAnswer pos field value)

/-- RESET_LINK (R38, R131, R175). -/
def State.doResetLink (s : State) (tag : Byte) : State :=
  s.request tag 20 State.resetLinkAnswer

/-- RESTART (R19, R176). -/
def State.doRestart (s : State) (tag : Byte) : State :=
  s.request tag 21 State.restartAnswer

/-- A BAD_REQUEST is answered with the request's own tag and code, or with tag 0 and code 0 when the payload is too short to
carry them (R166, R185). -/
def State.doBadRequest (s : State) (form : Option (Byte × Byte)) : State :=
  match form with
  | some (tag, code) => s.request tag code (·.refuse .badRequest)
  | none => s.request 0 0 (·.refuse .badRequest)

/-- A request received in a MGMT_REQUEST frame is run as its command is; a command that no payload carries is none
(R164, R179). -/
def State.runRequest (s : State) : Instr → State
  | .identify tag => s.doIdentify tag
  | .getStatus tag => s.doGetStatus tag
  | .setParam tag id value => s.doSetParam tag id value
  | .getParam tag id => s.doGetParam tag id
  | .loadProfile tag slot record => s.doLoadProfile tag slot record
  | .clearProfile tag slot => s.doClearProfile tag slot
  | .loadSteps tag first descriptors => s.doLoadSteps tag first descriptors
  | .readEntry tag table index => s.doReadEntry tag table index
  | .bindFunction tag code kind place point mode param cls nominal => s.doBindFunction tag code kind place point mode param cls nominal
  | .unbindFunction tag code kind place point => s.doUnbindFunction tag code kind place point
  | .bindReport tag pos point code filter threshold => s.doBindReport tag pos point code filter threshold
  | .unbindReport tag pos point => s.doUnbindReport tag pos point
  | .enumerate tag force => s.doEnumerate tag force
  | .start tag pos slot => s.doStart tag pos slot
  | .hold tag pos => s.doHold tag pos
  | .resume tag pos => s.doResume tag pos
  | .abort tag pos => s.doAbort tag pos
  | .readContext tag pos => s.doReadContext tag pos
  | .writeContext tag pos field value => s.doWriteContext tag pos field value
  | .resetLink tag => s.doResetLink tag
  | .restart tag => s.doRestart tag
  | .badRequest form => s.doBadRequest form
  | _ => s

/-! ### The commands -/

def execIdentify (tag : Byte) (s : State) : Host.Outcome State Fault Refusal :=
  .next (s.heard.doIdentify tag)

def execGetStatus (tag : Byte) (s : State) : Host.Outcome State Fault Refusal :=
  .next (s.heard.doGetStatus tag)

def execSetParam (tag id : Byte) (value : Half) (s : State) : Host.Outcome State Fault Refusal :=
  .next (s.heard.doSetParam tag id value)

def execGetParam (tag id : Byte) (s : State) : Host.Outcome State Fault Refusal :=
  .next (s.heard.doGetParam tag id)

def execLoadProfile (tag slot : Byte) (record : RawProfile) (s : State) : Host.Outcome State Fault Refusal :=
  .next (s.heard.doLoadProfile tag slot record)

def execClearProfile (tag slot : Byte) (s : State) : Host.Outcome State Fault Refusal :=
  .next (s.heard.doClearProfile tag slot)

def execLoadSteps (tag : Byte) (first : Half) (descriptors : List RawStep) (s : State) : Host.Outcome State Fault Refusal :=
  .next (s.heard.doLoadSteps tag first descriptors)

def execReadEntry (tag table : Byte) (index : Half) (s : State) : Host.Outcome State Fault Refusal :=
  .next (s.heard.doReadEntry tag table index)

def execBindFunction (tag code kind place point mode : Byte) (param : Half) (cls : Byte) (nominal : Half) (s : State) : Host.Outcome State Fault Refusal :=
  .next (s.heard.doBindFunction tag code kind place point mode param cls nominal)

def execUnbindFunction (tag code kind place point : Byte) (s : State) : Host.Outcome State Fault Refusal :=
  .next (s.heard.doUnbindFunction tag code kind place point)

def execBindReport (tag pos point code filter : Byte) (threshold : Half) (s : State) : Host.Outcome State Fault Refusal :=
  .next (s.heard.doBindReport tag pos point code filter threshold)

def execUnbindReport (tag pos point : Byte) (s : State) : Host.Outcome State Fault Refusal :=
  .next (s.heard.doUnbindReport tag pos point)

def execEnumerate (tag force : Byte) (s : State) : Host.Outcome State Fault Refusal :=
  .next (s.heard.doEnumerate tag force)

def execStart (tag pos slot : Byte) (s : State) : Host.Outcome State Fault Refusal :=
  .next (s.heard.doStart tag pos slot)

def execHold (tag pos : Byte) (s : State) : Host.Outcome State Fault Refusal :=
  .next (s.heard.doHold tag pos)

def execResume (tag pos : Byte) (s : State) : Host.Outcome State Fault Refusal :=
  .next (s.heard.doResume tag pos)

def execAbort (tag pos : Byte) (s : State) : Host.Outcome State Fault Refusal :=
  .next (s.heard.doAbort tag pos)

def execReadContext (tag pos : Byte) (s : State) : Host.Outcome State Fault Refusal :=
  .next (s.heard.doReadContext tag pos)

def execWriteContext (tag pos field : Byte) (value : Half) (s : State) : Host.Outcome State Fault Refusal :=
  .next (s.heard.doWriteContext tag pos field value)

def execResetLink (tag : Byte) (s : State) : Host.Outcome State Fault Refusal :=
  .next (s.heard.doResetLink tag)

def execRestart (tag : Byte) (s : State) : Host.Outcome State Fault Refusal :=
  .next (s.heard.doRestart tag)

def execBadRequest (form : Option (Byte × Byte)) (s : State) : Host.Outcome State Fault Refusal :=
  .next (s.heard.doBadRequest form)

end Sys2Proof.Machine
end

