-- ==== Sys2Proof/Machine/CabPort.lean ====
section
/-! DEFINITION. The cab port's receiver and transmitter, and FUNCTION (R96, R177 to R182). -/

namespace Sys2Proof.Machine

def State.setFrameError (s : State) : State := s.modifyCab (fun c => { c with frameError := true })

/-- A FUNCTION frame taken (R96, R179): one event of the translator. -/
def State.doFunction (s : State) (code value : Byte) : State :=
  s.happens (fun s => s.takeFunction code.toNat value.toNat)

/-! ### The receiver (R178) -/

/-- What the bytes since a SYNC byte, it included, make: a frame not yet whole; a frame dropped whose bytes after the SYNC
byte are searched again; a whole frame with a good check, and the bytes behind it. -/
inductive Heard where
  | partly
  | searchAgain
  | frame (kind : Nat) (payload rest : List Byte)
  deriving DecidableEq, Repr

/-- Judge the gathered bytes (R177, R178). -/
def judgeFrame : List Byte → Heard
  | sync :: kind :: len :: more =>
    let n := len.toNat
    if Config.maxPayload < n then .searchAgain
    else
      match more.drop n with
      | hi :: lo :: rest =>
        if byteSum (sync :: kind :: len :: more.take n) % 65536 = hi.toNat * 256 + lo.toNat then
          .frame kind.toNat (more.take n) rest
        else .searchAgain
      | _ => .partly
  | _ => .partly

/-- A whole frame with a good check: taken, or dropped with frame-error for its kind or its FUNCTION length (R178, R179). -/
def State.takeFrame (s : State) (kind : Nat) (payload : List Byte) : State :=
  match kind, payload with
  | 1, [code, value] => s.doFunction code value
  | 2, _ => s.runRequest (decodeRequest payload)
  | _, _ => s.setFrameError

/-- Search bytes for frames, in order: bytes ahead of a SYNC byte are discarded, a whole frame is taken, a frame not yet
whole stays gathered (R178). Each search is of a shorter list, so fuel above its length is never spent. -/
def State.hunt : Nat → State → List Byte → State
  | 0, s, _ => s
  | fuel + 1, s, bytes =>
    let found := bytes.dropWhile (fun b => b.toNat != Config.sync)
    let here := fun (g : List Byte) => s.modifyCab (fun c => { c with gathered := g })
    match found with
    | [] => here []
    | _ :: tail =>
      match judgeFrame found with
      | .partly => here found
      | .searchAgain => State.hunt fuel (here []).setFrameError tail
      | .frame kind payload rest => State.hunt fuel ((here []).takeFrame kind payload) rest

def State.search (s : State) (bytes : List Byte) : State := State.hunt (bytes.length + 1) s bytes

/-- A character with a framing fault: discarded in HUNTING; in IN_FRAME the frame is dropped and the bytes after its SYNC byte
are searched again, and a frame they leave begun is dropped by the same character (R178). -/
def State.loseFrame : Nat → State → State
  | 0, s => s
  | fuel + 1, s =>
    match s.cab.gathered with
    | [] => s
    | _ :: tail => State.loseFrame fuel (s.setFrameError.search tail)

/-- A byte of a frame in the making must be followed by the next within 1 ms (R178). -/
def State.startByteTimer (s : State) : State :=
  s.modifyCab (fun c => { c with byteLimit := s.now + Config.interByte })

/-! ### The commands -/

/-- FUNCTION (R96, R179). -/
def execFunction (code value : Byte) (s : State) : Host.Outcome State Fault Refusal :=
  .next (s.heard.doFunction code value)

/-- CAB_BYTE_RECEIVED (R178). -/
def execCabByteReceived (byte : Byte) (framingFault : Bool) (s : State) : Host.Outcome State Fault Refusal :=
  if framingFault then .next (s.loseFrame (s.cab.gathered.length + 1))
  else .next (s.startByteTimer.search (s.cab.gathered ++ [byte]))

/-- CAB_FRAME_DROPPED (R178): the frame's bytes are those gathered and `rest`, whose last has just come; frame-error is set, and
hunting resumes after the frame for a frame whose check was good, else after its SYNC byte. A frame that the search leaves
begun must go on within 1 ms of that last byte. -/
def execCabFrameDropped (finding : FrameFinding) (rest : List Byte) (s : State) : Host.Outcome State Fault Refusal :=
  let tail := (s.cab.gathered ++ rest).tail
  let dropped := s.heard.setFrameError.startByteTimer
  match finding with
  | .badLength => .next (dropped.search tail)
  | .badCheck => .next (dropped.search tail)
  | .framingFault => .next ((dropped.search tail).loseFrame (tail.length + 1))
  | .wrongKind => .next dropped
  | .wrongFunctionLength => .next dropped

/-- INTER_BYTE_TIMEOUT (R178): the frame is dropped, and hunting resumes with the next byte received. -/
def execInterByteTimeout (s : State) : Host.Outcome State Fault Refusal :=
  if s.cab.gathered = [] then .fault .receiverHunting
  else .next ((s.elapse s.cab.byteLimit).heard.setFrameError)

/-- REQUEST_DROPPED (R179). -/
def execRequestDropped (s : State) : Host.Outcome State Fault Refusal :=
  if s.cab.full then .next (s.heard.modifyCab (fun c => { c with requestsDropped := true }))
  else .fault .replyQueueHasRoom

/-- TRANSMIT_FRAME_END (R182): the transmitter is idle after the second check byte, and takes the next frame at once. -/
def execTransmitFrameEnd (s : State) : Host.Outcome State Fault Refusal :=
  match s.cab.sending with
  | some _ => .next ((s.modifyCab (fun c => { c with sending := none })).transmit)
  | none => .fault .transmitterIdle

end Sys2Proof.Machine
end

