-- ==== Sys2Proof/Machine/CouplingEvents.lean ====
section
/-! DEFINITION. POWER_ON and the coupling monitor (R1 to R4). -/

namespace Sys2Proof.Machine

def State.modifyCoupling (s : State) (f : Coupling → Coupling) : State := { s with coupling := f s.coupling }

/-- POWER_ON (R4, and each block's power-on state): the coupling inputs and the zone are sampled; what the drivers sense is an
input, and the waiting commands and the clock are the model's. -/
def execPowerOn (contactClosed lockSensed : Bool) (zone : Zone) (s : State) : Host.Outcome State Fault Refusal :=
  .next (State.powerOn s.now contactClosed lockSensed zone s.lamps.sensed s.lamps.readings s.pending)

/-- The presence debounce length towards a level (R1). -/
def presenceLength (closed : Bool) : Nat := if closed then Config.presenceClosing else Config.presenceOpening

/-- A change of the raw contact: back to the debounced level the timer is cancelled; away from it the timer starts, or, where it
runs already, restarts with its full length (R1). -/
def Coupling.contact (c : Coupling) (now : Nat) (closed : Bool) : Coupling :=
  if closed = c.presence then { c with rawPresence := closed, presenceTimer := none }
  else { c with rawPresence := closed, presenceTimer := some (now + presenceLength closed) }

/-- PRESENCE_CONTACT_CHANGE (R1). -/
def execPresenceContactChange (closed : Bool) (s : State) : Host.Outcome State Fault Refusal :=
  .next (s.modifyCoupling (·.contact s.now closed))

/-- The same cases for the lock sense, 50 ms both ways (R2). -/
def Coupling.lockSense (c : Coupling) (now : Nat) (locked : Bool) : Coupling :=
  if locked = c.lock then { c with rawLock := locked, lockTimer := none }
  else { c with rawLock := locked, lockTimer := some (now + Config.lockDebounce) }

/-- LOCK_SENSE_CHANGE (R2). -/
def execLockSenseChange (locked : Bool) (s : State) : Host.Outcome State Fault Refusal :=
  .next (s.modifyCoupling (·.lockSense s.now locked))

/-- CONNECT starts a full enumeration, DISCONNECT ends everything the enumerator has in hand; the COUPLING notice comes first
(R3). -/
def State.presenceSettles (s : State) : State :=
  let closed := s.coupling.rawPresence
  let s1 := s.modifyCoupling (fun c => { c with presence := closed, presenceTimer := none })
  if closed then (s1.note (.coupling .connect)).enumerate else (s1.note (.coupling .disconnect)).disconnect

/-- PRESENCE_DEBOUNCE_EXPIRY (R1, R3, R10, R18). -/
def execPresenceDebounceExpiry (s : State) : Host.Outcome State Fault Refusal :=
  match s.coupling.presenceTimer with
  | some t => .next ((s.elapse t).happens State.presenceSettles)
  | none => .fault .timerNotRunning

/-- LOCK makes the auto-start test of every WAITING position; UNLOCK is the level only (R3, R65). -/
def State.lockSettles (s : State) : State :=
  let locked := s.coupling.rawLock
  let s1 := s.modifyCoupling (fun c => { c with lock := locked, lockTimer := none })
  if locked then (s1.note (.coupling .lock)).autoStartAll else s1.note (.coupling .unlock)

/-- LOCK_DEBOUNCE_EXPIRY (R2, R3, R65). -/
def execLockDebounceExpiry (s : State) : Host.Outcome State Fault Refusal :=
  match s.coupling.lockTimer with
  | some t => .next ((s.elapse t).happens State.lockSettles)
  | none => .fault .timerNotRunning

end Sys2Proof.Machine
end

