-- ==== Sys2Proof/Machine/FeedEvents.lean ====
section
/-! DEFINITION. The feed manager's own events (R132, R137, R139, R142). -/

namespace Sys2Proof.Machine

/-- THERMAL_ZONE_EVENT (R132, R136, R137, R143). -/
def execThermalZoneEvent (zone : Zone) (s : State) : Host.Outcome State Fault Refusal :=
  .next (s.happens (fun s => s.zoneEvent zone))

/-- SETTLE_TIMER_EXPIRY (R139). -/
def execSettleTimerExpiry (s : State) : Host.Outcome State Fault Refusal :=
  match s.feed.settleTimer with
  | some t => .next ((s.elapse t).happens State.settleExpires)
  | none => .fault .timerNotRunning

/-- LOWER_HOLD_TIMER_EXPIRY (R142). -/
def execLowerHoldTimerExpiry (s : State) : Host.Outcome State Fault Refusal :=
  match s.feed.holdTimer with
  | some t => .next ((s.elapse t).happens State.lowerHoldExpires)
  | none => .fault .timerNotRunning

end Sys2Proof.Machine
end

