-- ==== Sys2Proof/Machine/LampEvents.lean ====
section
/-! DEFINITION. The lamp check unit's own events (R152, R156, R162). -/

namespace Sys2Proof.Machine

/-- DRIVER_OVERCURRENT_TRIP of a circuit (R152). A driver that is off carries no current to trip on. -/
def execDriverOvercurrentTrip (circuit : Nat) (s : State) : Host.Outcome State Fault Refusal :=
  if circuitOk circuit then
    if (s.circuit circuit).output then .next (s.happens (fun s => s.trip circuit)) else .fault .driverOff
  else .fault .noSuchUnit

/-- The timer restarts, and each eligible circuit receives a verdict (R156). -/
def State.lampCheckExpires (s : State) : State :=
  ({ s with lamps := { s.lamps with checkTimer := s.now + Config.lampPeriod } }).lampCheck

/-- LAMP_CHECK_TIMER_EXPIRY, with the currents sensed at it (R156 to R158). -/
def execLampCheckTimerExpiry (currents : List Nat) (s : State) : Host.Outcome State Fault Refusal :=
  .next ((s.elapse s.lamps.checkTimer).happens (fun s => (s.sense allCircuits currents).lampCheckExpires))

/-- PROBE_PULSE_EXPIRY of a circuit, with the current sensed at it (R162). -/
def execProbePulseExpiry (circuit current : Nat) (s : State) : Host.Outcome State Fault Refusal :=
  if circuitOk circuit then
    match (s.circuit circuit).pulse with
    | some t =>
      .next ((s.elapse t).happens (fun s =>
        (s.sense [circuit] (s.lamps.sensed.set (circuit - 1) current)).pulseEnds circuit))
    | none => .fault .timerNotRunning
  else .fault .noSuchUnit

end Sys2Proof.Machine
end

