-- ==== Sys2Proof/Machine/LinkEvents.lean ====
section
/-! DEFINITION. The commands of the chain link: node words, answer windows, limits, the quiet gap, the break (R28 to
R36). -/

namespace Sys2Proof.Machine

def State.setLine (s : State) (l : OnLine) : State := s.modifyLink (fun k => { k with line := some l })

/-- The course a word gives the transaction on the line is taken. -/
def State.follow (s : State) : Course → State
  | .goesOn l bits => s.setLine { l with windowEnd := s.now + s.link.bitTimes bits }
  | .ends l o => s.endTransaction l o

/-- The part is still sending the bytes of a WRITE or ASSIGN (R30). -/
def OnLine.sending (l : OnLine) : Bool := l.phase == .data && l.txn.kind.partSends

/-- The bytes of a WRITE or ASSIGN have been sent: the transaction enters ENDING STATUS, its answer window begins, and the
arbiter may grant (R30, R31, R41). -/
def State.bytesSent (s : State) (l : OnLine) : State :=
  let s1 := s.elapse l.windowEnd
  s1.happens (fun s => s.setLine { l with
    phase := .endingStatus, windowEnd := s.now + s.link.bitTimes windowBits })

/-- The line as the node's word, or its silence, finds it: the part's own sending is over, since one side sends at a time
(R20, log entry 13). -/
def State.afterSending (s : State) (l : OnLine) : State := if l.sending then s.bytesSent l else s

/-- A node word that is due (R28 to R31): the transaction goes on or ends. -/
def State.hearWord (s : State) (l : OnLine) (w : NodeWord) : State :=
  (s.afterSending l).happens (fun t => t.follow ((t.link.line.getD l).word w))

/-- NODE_WORD_RECEIVED (R28 to R31). -/
def execNodeWordReceived (w : NodeWord) (s : State) : Host.Outcome State Fault Refusal :=
  match s.link.line with
  | some l => .next (s.hearWord l w)
  | none => .fault .lineIdle

def Course.isEnd : Course → Bool
  | .ends _ _ => true
  | .goesOn _ _ => false

/-- TRANSACTION_END (R34): a node word that ends the transaction. -/
def execTransactionEnd (w : NodeWord) (s : State) : Host.Outcome State Fault Refusal :=
  match s.link.line with
  | some l => if (l.word w).isEnd then .next (s.hearWord l w) else .fault .wordDoesNotEnd
  | none => .fault .lineIdle

/-- TRANSACTION_ENTERS_ENDING_STATUS (R29, R30, R41): the part has sent its last data byte, or the node's last word before its
ending status has come; the arbiter may fill the holding slot. DESIGN CHOICE (log entry 3): a transaction already in ENDING STATUS
stays as it is, and one before it stops. -/
def execTransactionEntersEndingStatus (s : State) : Host.Outcome State Fault Refusal :=
  match s.link.line with
  | some l =>
    if l.sending then .next (s.bytesSent l)
    else if l.phase = .endingStatus then .next (s.happens id)
    else .fault .dataNotOver
  | none => .fault .lineIdle

/-- The answer window has run out with no word begun (R28 to R31). -/
def State.hearSilence (s : State) (l : OnLine) : State :=
  (s.elapse l.windowEnd).happens (fun t => t.endTransaction l.sent l.silence)

/-- ANSWER_WINDOW_EXPIRY (R28 to R31, R33). -/
def execAnswerWindowExpiry (s : State) : Host.Outcome State Fault Refusal :=
  match s.link.line with
  | some l =>
    let s1 := s.afterSending l
    .next (s1.hearSilence (s1.link.line.getD l))
  | none => .fault .lineIdle

/-- TRANSACTION_LIMIT_EXPIRY (R32). -/
def execTransactionLimitExpiry (s : State) : Host.Outcome State Fault Refusal :=
  match s.link.line with
  | some l =>
    .next ((s.elapse (l.startedAt + Config.transactionLimit)).happens (fun t => t.endTransaction l .timeout))
  | none => .fault .lineIdle

/-- QUIET_GAP_EXPIRY (R35, R36). -/
def execQuietGapExpiry (s : State) : Host.Outcome State Fault Refusal :=
  match s.link.gap with
  | some t => .next ((s.elapse t).happens (fun s => s.modifyLink (fun l => { l with gap := none })))
  | none => .fault .timerNotRunning

/-- BREAK_LOW_EXPIRY (R36). -/
def execBreakLowExpiry (s : State) : Host.Outcome State Fault Refusal :=
  match s.link.breakState with
  | .low t => .next ((s.elapse t).happens (fun s =>
      s.modifyLink (fun l => { l with breakState := .recovery (s.now + Config.breakRecovery) })))
  | .recovery _ => .fault .timerNotRunning
  | .none => .fault .timerNotRunning

/-- The break state returns to NONE; the enumerator is told unless another break is requested (R36). -/
def State.breakEnds (s : State) : State :=
  let s1 := s.modifyLink (fun l => { l with breakState := .none })
  if s.link.breakRequested then s1 else s1.modifyEnum (·.breakEnded)

/-- BREAK_RECOVERY_END (R11, R36). -/
def execBreakRecoveryEnd (s : State) : Host.Outcome State Fault Refusal :=
  match s.link.breakState with
  | .recovery t => .next ((s.elapse t).happens State.breakEnds)
  | .low _ => .fault .timerNotRunning
  | .none => .fault .timerNotRunning

end Sys2Proof.Machine
end

