-- ==== Sys2Proof/Machine/Timers.lean ====
section
/-! DEFINITION. The expiries of the enumerator's waits, the engine's timers and the scan period (R14, R15, R79, R87,
R120). -/

namespace Sys2Proof.Machine

/-- PASS_THROUGH_WAIT_EXPIRY (R14). -/
def execPassThroughWaitExpiry (s : State) : Host.Outcome State Fault Refusal :=
  match s.enumerator.passWait with
  | some t => .next ((s.elapse t).happens (fun s => s.modifyEnum (·.passOver)))
  | none => .fault .timerNotRunning

/-- BUSY_WAIT_EXPIRY (R15). -/
def execBusyWaitExpiry (s : State) : Host.Outcome State Fault Refusal :=
  match s.enumerator.busyWait with
  | some t => .next ((s.elapse t).happens (fun s => s.modifyEnum (·.busyOver)))
  | none => .fault .timerNotRunning

/-- BUSY_RETRY_TIMER_EXPIRY of a position (R79). -/
def execBusyRetryTimerExpiry (pos : Nat) (s : State) : Host.Outcome State Fault Refusal :=
  if positionOk pos then
    match (s.pcr pos).busyTimer with
    | some t => .next ((s.elapse t).happens (fun s => s.busyRetry pos))
    | none => .fault .timerNotRunning
  else .fault .noSuchUnit

/-- WAIT_TIMER_EXPIRY of a position (R87). -/
def execWaitTimerExpiry (pos : Nat) (s : State) : Host.Outcome State Fault Refusal :=
  if positionOk pos then
    match (s.pcr pos).waitTimer with
    | some t => .next ((s.elapse t).happens (fun s => s.waitOver pos))
    | none => .fault .timerNotRunning
  else .fault .noSuchUnit

/-- SCAN_PERIOD_EXPIRY (R120, R121): the timer runs at all times. -/
def execScanPeriodExpiry (s : State) : Host.Outcome State Fault Refusal :=
  .next ((s.elapse s.scanner.periodTimer).happens State.periodExpires)

end Sys2Proof.Machine
end

