-- ==== Sys2Proof/Machine/Dispatch.lean ====
section
/-! DEFINITION. One arm for each command. -/

namespace Sys2Proof.Machine

def exec (i : Instr) (s : State) : Host.Outcome State Fault Refusal :=
  match i with
  | .powerOn c l z => Sys2Proof.Machine.execPowerOn c l z s
  | .presenceContactChange c => Sys2Proof.Machine.execPresenceContactChange c s
  | .presenceDebounceExpiry => Sys2Proof.Machine.execPresenceDebounceExpiry s
  | .lockSenseChange l => Sys2Proof.Machine.execLockSenseChange l s
  | .lockDebounceExpiry => Sys2Proof.Machine.execLockDebounceExpiry s
  | .function c v => Sys2Proof.Machine.execFunction c v s
  | .cabFrameDropped f r => Sys2Proof.Machine.execCabFrameDropped f r s
  | .interByteTimeout => Sys2Proof.Machine.execInterByteTimeout s
  | .requestDropped => Sys2Proof.Machine.execRequestDropped s
  | .badRequest f => Sys2Proof.Machine.execBadRequest f s
  | .transmitFrameEnd => Sys2Proof.Machine.execTransmitFrameEnd s
  | .identify t => Sys2Proof.Machine.execIdentify t s
  | .getStatus t => Sys2Proof.Machine.execGetStatus t s
  | .setParam t id v => Sys2Proof.Machine.execSetParam t id v s
  | .getParam t id => Sys2Proof.Machine.execGetParam t id s
  | .loadProfile t n r => Sys2Proof.Machine.execLoadProfile t n r s
  | .clearProfile t n => Sys2Proof.Machine.execClearProfile t n s
  | .loadSteps t f d => Sys2Proof.Machine.execLoadSteps t f d s
  | .readEntry t b n => Sys2Proof.Machine.execReadEntry t b n s
  | .bindFunction t c k p a m x cl n => Sys2Proof.Machine.execBindFunction t c k p a m x cl n s
  | .unbindFunction t c k p a => Sys2Proof.Machine.execUnbindFunction t c k p a s
  | .bindReport t p a c f h => Sys2Proof.Machine.execBindReport t p a c f h s
  | .unbindReport t p a => Sys2Proof.Machine.execUnbindReport t p a s
  | .enumerate t f => Sys2Proof.Machine.execEnumerate t f s
  | .start t p n => Sys2Proof.Machine.execStart t p n s
  | .hold t p => Sys2Proof.Machine.execHold t p s
  | .resume t p => Sys2Proof.Machine.execResume t p s
  | .abort t p => Sys2Proof.Machine.execAbort t p s
  | .readContext t p => Sys2Proof.Machine.execReadContext t p s
  | .writeContext t p f v => Sys2Proof.Machine.execWriteContext t p f v s
  | .resetLink t => Sys2Proof.Machine.execResetLink t s
  | .restart t => Sys2Proof.Machine.execRestart t s
  | .transactionEntersEndingStatus => Sys2Proof.Machine.execTransactionEntersEndingStatus s
  | .answerWindowExpiry => Sys2Proof.Machine.execAnswerWindowExpiry s
  | .transactionLimitExpiry => Sys2Proof.Machine.execTransactionLimitExpiry s
  | .transactionEnd w => Sys2Proof.Machine.execTransactionEnd w s
  | .quietGapExpiry => Sys2Proof.Machine.execQuietGapExpiry s
  | .breakLowExpiry => Sys2Proof.Machine.execBreakLowExpiry s
  | .breakRecoveryEnd => Sys2Proof.Machine.execBreakRecoveryEnd s
  | .passThroughWaitExpiry => Sys2Proof.Machine.execPassThroughWaitExpiry s
  | .busyWaitExpiry => Sys2Proof.Machine.execBusyWaitExpiry s
  | .busyRetryTimerExpiry p => Sys2Proof.Machine.execBusyRetryTimerExpiry p s
  | .waitTimerExpiry p => Sys2Proof.Machine.execWaitTimerExpiry p s
  | .scanPeriodExpiry => Sys2Proof.Machine.execScanPeriodExpiry s
  | .thermalZoneEvent z => Sys2Proof.Machine.execThermalZoneEvent z s
  | .settleTimerExpiry => Sys2Proof.Machine.execSettleTimerExpiry s
  | .lowerHoldTimerExpiry => Sys2Proof.Machine.execLowerHoldTimerExpiry s
  | .driverOvercurrentTrip c => Sys2Proof.Machine.execDriverOvercurrentTrip c s
  | .lampCheckTimerExpiry cs => Sys2Proof.Machine.execLampCheckTimerExpiry cs s
  | .probePulseExpiry c m => Sys2Proof.Machine.execProbePulseExpiry c m s
  | .cabByteReceived b f => Sys2Proof.Machine.execCabByteReceived b f s
  | .nodeWordReceived w => Sys2Proof.Machine.execNodeWordReceived w s

end Sys2Proof.Machine
end

