-- ==== Sys2Proof/Machine/Node.lean ====
section
/-! DEFINITION. A trailer node as the part relies on it (R22 to R26): the machine at the other end of the chain link. It is
outside the part: no field of `State` holds a node, and no command calls these functions. -/

namespace Sys2Proof.Machine

/-- A recorded change of an input point (R25). -/
structure Change where
  point : Nat
  value : Nat
  deriving DecidableEq, Repr

/-- The bytes a node's point holds. -/
structure NodePoint where
  point : Nat
  bytes : List Byte
  deriving DecidableEq, Repr

/-- A node's own state (R22 to R26). `points` holds the points that exist on it but for 1 to 4 and the identity. -/
structure Node where
  address : Nat
  passThrough : Bool
  identity : List Byte
  points : List NodePoint
  changes : List Change
  downstream : Bool
  downstreamChange : Bool
  sense : List Byte
  deriving DecidableEq, Repr

/-- The first node hears the link; a node further back hears it when every node ahead has its pass-through closed (R22). -/
def hearing : List Node → List Node
  | [] => []
  | n :: rest => n :: (if n.passThrough then hearing rest else [])

/-- The nodes that answer a select word for an address (R22). -/
def answering (chain : List Node) (address : Nat) : List Node :=
  (hearing chain).filter (fun n => n.address == address)

/-- A node answers a select word of good parity that carries the address it holds, by echoing it (R22, R24, R28). -/
def Node.echo (n : Node) (select : NodeWord) : Option NodeWord :=
  if parityGood select && select.data.toNat == n.address then
    some { marked := false, data := select.data, parity := select.parity }
  else none

/-- An output point: odd (R24). -/
def NodePoint.isOutput (p : NodePoint) : Bool := p.point % 2 == 1

/-- On recognising a break the node returns to its unaddressed state (R23). -/
def Node.break (n : Node) : Node :=
  { n with
    address := 0, passThrough := false, changes := [], downstreamChange := false, sense := []
    points := n.points.map (fun p => if p.isOutput then { p with bytes := p.bytes.map (fun _ => 0) } else p) }

/-- A break reaches every node that hears the link when it begins (R23). -/
def breakChain : List Node → List Node
  | [] => []
  | n :: rest => n.break :: (if n.passThrough then breakChain rest else rest)

/-- An input point's change is recorded once per point, at its place or at the tail; points 0, 2 and 4 are not recorded
(R25). -/
def Node.inputChanges (n : Node) (point value : Nat) : Node :=
  if point = 0 ∨ point = 2 ∨ point = 4 then n
  else if n.changes.any (fun c => c.point == point) then
    { n with changes := modifyFirst (fun c => c.point == point) (fun c => { c with value := value }) n.changes }
  else { n with changes := n.changes ++ [⟨point, value⟩] }

/-- ATTENTION is shown while the change list is not empty (R25). -/
def Node.attention (n : Node) : Bool := !n.changes.isEmpty

def Change.bytes (c : Change) : List Byte := byteOf c.point :: twoBytes c.value

/-- The six bytes of a READ of point 2 with count 6: the two oldest entries, a missing one sent as zeros (R25). -/
def Node.changeListBytes (n : Node) : List Byte :=
  ((n.changes.take 2).flatMap Change.bytes ++ [0, 0, 0, 0, 0, 0]).take 6

/-- The downstream state changes: DOWNSTREAM_CHANGE is set, and an uncoupling opens the pass-through (R26). -/
def Node.senseDownstream (n : Node) (coupled : Bool) : Node :=
  if coupled = n.downstream then n
  else { n with downstream := coupled, downstreamChange := true, passThrough := n.passThrough && coupled }

/-- The bytes a point holds, as a READ returns them (R22, R25, R26). -/
def Node.stored (n : Node) (point : Nat) : Option (List Byte) :=
  match point with
  | 0 => some n.identity
  | 1 => some [byteOf (bitAt n.passThrough 0)]
  | 2 => some n.changeListBytes
  | 4 => some [byteOf (bitAt n.downstream 0)]
  | a => (n.points.find? (fun p => p.point == a)).map (·.bytes)

/-- The node answers POINT_INVALID: no such point, a parity that does not fit the kind, or a WRITE of point 0, 2 or 4
(R24). -/
def Node.refusesPoint (n : Node) (kind : TxnKind) (point : Nat) : Bool :=
  match kind with
  | .read => (n.stored point).isNone || point % 2 == 1
  | .write => (n.stored point).isNone || point % 2 == 0
  | .sense => false
  | .poll => false
  | .assign => false

/-- The initial status, for a node that can or cannot take the command now and has or has not met a fault (R24, R25,
R26). -/
def Node.initialStatus (n : Node) (kind : TxnKind) (point : Nat) (busy fault : Bool) : InitialStatus :=
  { busy := busy, unitCheck := fault, pointInvalid := n.refusesPoint kind point
    attention := n.attention, downstreamChange := n.downstreamChange }

/-- The data bytes of a READ: those the point has, up to the count (R24). -/
def Node.readBytes (n : Node) (point count : Nat) : List Byte := ((n.stored point).getD []).take count

/-- Sending the data byte of a READ of point 4 clears DOWNSTREAM_CHANGE (R26). -/
def Node.sentDownstream (n : Node) : Node := { n with downstreamChange := false }

/-- At the ending status COMPLETE a WRITE or ASSIGN takes effect whole, and a change-list read removes the entries it sent
(R22, R24, R25). -/
def Node.complete (n : Node) (kind : TxnKind) (point : Nat) (bytes : List Byte) : Node :=
  match kind with
  | .assign => { n with address := (bytes.headD 0).toNat }
  | .write =>
    if point = 1 then { n with passThrough := bytes.headD 0 == 1 }
    else { n with points := n.points.map (fun p => if p.point = point then { p with bytes := bytes } else p) }
  | .read => if point = 2 then { n with changes := n.changes.drop 2 } else n
  | .sense => n
  | .poll => n

end Sys2Proof.Machine
end

