-- ==== Sys2Proof/Safety.lean ====
section
/-! DEFINITION. What counts as a good state of the part, in the terms the claims use: the sizes of its stores, the bounds of
its queues, the order of its tables, the shape of its feed record, the budget of its runs. -/

namespace Sys2Proof.Machine

/-- A list is strictly ordered. -/
def ordered (before : α → α → Bool) (l : List α) : Prop := l.Pairwise (fun a b => before a b = true)

/-- The two stores and the parameters have their sizes and ranges (R44, R51, R168). -/
def State.storesGood (s : State) : Prop :=
  s.profiles.length = Config.profileSlots ∧ s.steps.length = Config.stepIndices ∧
  s.translator.values.length = Config.functionCodes ∧ s.lamps.circuits.length = Config.circuitCount

/-- Every parameter lies in its range (R168). -/
def Params.inRange (x : Params) : Prop :=
  x.autoStart ≤ 1 ∧ x.feedCap ≤ 7 ∧ (1 ≤ x.settleMs ∧ x.settleMs ≤ 255) ∧ (2 ≤ x.scanPeriod ∧ x.scanPeriod ≤ 100) ∧
  x.lampTol ≤ 50 ∧ (10 ≤ x.lampMin ∧ x.lampMin ≤ 500) ∧ (1 ≤ x.linkRate ∧ x.linkRate ≤ 3)

/-- At most one slot carries the fallback mark, and only a valid record carries it (R45, R46). -/
def fallbackGood (ps : List Profile) : Prop :=
  (ps.filter (·.fallback)).length ≤ 1 ∧ ∀ p ∈ ps, p.fallback = true → p.valid = true

/-- Two reports do not share code and position (R181). -/
def Report.differ (a b : Report) : Prop := ¬(a.code = b.code ∧ a.pos = b.pos)

/-- The transmit queues keep their capacities, and the Report Queue its keys apart (R180, R181). -/
def CabPort.queuesGood (c : CabPort) : Prop :=
  c.replies.length ≤ Config.replyCapacity ∧ c.notices.length ≤ Config.noticeCapacity ∧
  c.reports.length ≤ Config.reportCapacity ∧ c.reports.Pairwise Report.differ

/-- A property of every position's value. -/
def PerPos.forAll (x : PerPos α) (P : α → Prop) : Prop := P x.p1 ∧ P x.p2 ∧ P x.p3 ∧ P x.p4

/-- No run has begun more than 256 steps (R71). -/
def State.budgetGood (s : State) : Prop := s.pcrs.forAll (fun x => x.executed ≤ Config.stepBudget)

/-- A circuit target is a circuit 1..10 (R98). -/
def Target.circuitGood : Target → Bool
  | .circuit c => circuitOk c
  | .point _ => true

/-- The Function Map, the Report Map and the Load Roll are in their order with no key twice, the Output Point Table with no
point twice, the first two and the table within their capacities, and every circuit target of the map is a circuit 1..10 (R98,
R99, R103, R116, R154). -/
def State.tablesGood (s : State) : Prop :=
  ordered MapEntry.before s.translator.map ∧ s.translator.map.length ≤ Config.functionMapCapacity ∧
  (∀ e ∈ s.translator.map, e.target.circuitGood = true) ∧
  ordered OutRec.before s.translator.points ∧ s.translator.points.length ≤ Config.outputPointCapacity ∧
  ordered ReportEntry.before s.scanner.map ∧ s.scanner.map.length ≤ Config.reportMapCapacity ∧
  ordered LoadEntry.before s.lamps.roll

/-- The feed record as its movement states leave it (R133, R137): L_b never above L_f, FEED_CAP or the zone's limit; STEADY when
L_f equals L_b and no timer runs; in SETTLING only the settle timer runs, in HOLDING only the lower-hold timer; in STEADY and
HOLDING the target held equals L_b, in SETTLING it is above. -/
def Feed.shapeGood (f : Feed) : Prop :=
  match f.movement with
  | .steady => f.limit = f.budget ∧ f.target = f.budget ∧ f.settleTimer = none ∧ f.holdTimer = none
  | .settling => f.budget < f.limit ∧ f.budget < f.target ∧ f.settleTimer.isSome ∧ f.holdTimer = none
  | .holding => f.budget < f.limit ∧ f.target = f.budget ∧ f.settleTimer = none ∧ f.holdTimer.isSome

/-- The feed record's shape, with its two classes and its target below FEED_CAP and the zone's limit (R134, R137). -/
def State.feedGood (s : State) : Prop :=
  s.feed.shapeGood ∧ s.feed.budget ≤ s.feed.limit ∧ s.feed.budget ≤ s.params.feedCap ∧
  s.feed.budget ≤ zoneLimit s.feed.zone ∧ s.feed.target ≤ s.params.feedCap ∧ s.feed.target ≤ zoneLimit s.feed.zone

/-- The feed record's demand, floor and target and every record's applied duty, shedding and over-budget are those that the
records, the requests, the cap and the zone give; a retiring or faulted record asks for no duty (R105, R135, R137, R146,
R147). -/
def State.dutiesGood (s : State) : Prop :=
  (∀ r ∈ s.translator.points, r.retiring = true ∨ r.faulted = true → r.requested = 0) ∧
  s.feed.demand = demandOf .safety s.translator.points ∧ s.feed.floor = floorOf s.feed.demand ∧
  s.feed.target = targetOf (greatest s.feed.requests) s.feed.floor s.params.feedCap s.feed.zone ∧
  (∀ r ∈ s.translator.points, r.applied =
    appliedDuty (demandOf .safety s.translator.points) (demandOf .comfort s.translator.points)
      (classBudget s.feed.budget) r) ∧
  s.feed.shedding = decide (classBudget s.feed.budget <
    demandOf .safety s.translator.points + demandOf .comfort s.translator.points) ∧
  s.feed.overBudget = decide (classBudget s.feed.budget < demandOf .safety s.translator.points)

/-- What a handover of a requested state makes of a circuit's record x at a time: y. A state that is the one handed over last is
no handover (R102). Neither SHORTED nor pulsed, the output follows it, its on-time from 0 where it goes ON; pulsed, the output
stays; SHORTED, ON leaves the output and OFF clears the short (R151, R153). -/
def Circuit.followsHandover (x y : Circuit) (now : Nat) (on : Bool) : Prop :=
  (on = x.requested → y = x) ∧
  (on ≠ x.requested →
    (x.lamp ≠ .shorted → x.pulse = none → y = { x with
      requested := on, output := on, onSince := if on then (if x.output then x.onSince else now) else 0 }) ∧
    (x.lamp ≠ .shorted → x.pulse.isSome → y = { x with requested := on }) ∧
    (x.lamp = .shorted → on = true → y = { x with requested := true }) ∧
    (x.lamp = .shorted → on = false → y = { x with
      requested := false, lamp := .unchecked, low := 0, high := 0, inn := 0, deviation := 0 }))

/-- The CIRCUIT notice of circuit c, with record x, when a requested state handed over clears its short (R153). -/
def Circuit.clearNotices (x : Circuit) (c : Nat) (on : Bool) : List Notice :=
  if x.lamp = .shorted ∧ x.requested = true ∧ on = false then [.circuit c .unchecked 0] else []

/-- A SHORTED circuit has its output off, no pulse and no holder (R152). -/
def State.shortsOff (s : State) : Prop :=
  ∀ c ∈ s.lamps.circuits, c.lamp = .shorted → c.output = false ∧ c.pulse = none ∧ c.holder = none

/-- The positions that hold or await the circuit's probe are distinct ones of 1..4, and so at most four (R150, R160). -/
def Circuit.probesGood (x : Circuit) : Prop :=
  (x.probes.map (·.pos)).Nodup ∧ ∀ w ∈ x.probes, 1 ≤ w.pos ∧ w.pos ≤ 4

def State.probesGood (s : State) : Prop := ∀ c ∈ s.lamps.circuits, c.probesGood

/-! ### Steps that wait for the feed -/

/-- Position p alone waits for the feed, at a FEED_REQUEST step of class cls whose run ends with it (R88, R149). -/
def State.waitsForFeed (s : State) (p cls : Nat) (f : StepFlags) : Prop :=
  s.feed.waiting = [p] ∧ 1 ≤ p ∧ p ≤ 4 ∧ (s.pcr p).state = .bringingUp ∧ (s.pcr p).phase = .feed ∧
  s.feed.requests.get p = cls ∧ f.chain = false ∧
  ∃ i, (s.pcr p).stepIndex = some i ∧ s.stepAt i = .step f (.feedRequest cls)

/-- No FEED_REQUEST step waits, or one does whose run ends with it. -/
def State.feedAlone (s : State) : Prop := s.feed.waiting = [] ∨ ∃ p cls f, s.waitsForFeed p cls f

/-- What a feed manager event makes of that step: granted when the budget class has reached its class, waiting on while a raise
settles below it, and else clamped: the step faults with FEED_CLAMPED, or with SUPPRESS succeeds; V becomes the budget class
either way (R88, R149, R74). -/
def State.feedStepTaken (s t : State) (p cls : Nat) (f : StepFlags) : Prop :=
  let x := s.pcr p
  let ended := { x with v := t.feed.budget, phase := .idle, holdPending := false }
  (cls ≤ t.feed.budget → t.feed.waiting = [] ∧
    t.pcr p = { ended with state := (if x.degraded then .degraded else .ready) }) ∧
  (t.feed.budget < cls → t.feed.movement = .settling → t.feed.waiting = [p] ∧ t.pcr p = x) ∧
  (t.feed.budget < cls → t.feed.movement ≠ .settling → t.feed.waiting = [] ∧
    t.pcr p =
      (if f.suppress then { ended with state := (if x.degraded then .degraded else .ready) }
       else if f.critical then { ended with state := .failed, cause := some .feedClamped }
       else { ended with state := .degraded, degraded := true, cause := some .feedClamped }))

/-! ### What a request leaves at the cab port -/

/-- The Reply Queue has room (R179). -/
def State.hasRoom (s : State) : Prop := s.cab.replies.length < Config.replyCapacity

/-- The state of a request that changed nothing else: the receiver is HUNTING, the reply stands at the tail of the Reply
Queue, and a transmitter that was idle has taken the head (R164, R178, R182). -/
def State.answered (s : State) (r : Reply) : State :=
  { s with cab := CabPort.take { s.cab with gathered := [], replies := s.cab.replies ++ [r] } }

/-- What the reply of a request leaves at the cab port, whatever else the request did. -/
def State.repliesWith (s t : State) (r : Reply) : Prop :=
  t.cab.gathered = [] ∧ t.cab.replies = (s.answered r).cab.replies ∧ t.cab.sending = (s.answered r).cab.sending

/-! ### What an event leaves alone -/

/-- The two stores and the parameters are as they were (R44, R51, R168). -/
def State.keepsStores (s t : State) : Prop :=
  t.profiles = s.profiles ∧ t.steps = s.steps ∧ t.params = s.params

/-- Beside the stores: the coupling levels, what the drivers sense, the waiting commands. -/
def State.keepsInputs (s t : State) : Prop :=
  s.keepsStores t ∧ t.coupling = s.coupling ∧ t.lamps.sensed = s.lamps.sensed ∧ t.pending = s.pending

/-! ### Between events -/

/-- Nothing that an event's end would still do is left to do: no work of an event is kept, a free line carries nothing that
waits for it, nothing is granted that could be, no check waits in DONE, and an idle transmitter finds every queue empty
(R16, R35, R36, R41, R182). -/
def State.settled (s : State) : Prop :=
  s.ev = EventWork.none ∧
  (s.link.free = true → s.link.slot = none ∧ s.link.breakRequested = false) ∧
  (s.mayGrant = true → s.nextGrant = none) ∧
  (s.enumerator.state = .done → s.enumerator.pendingChecks = []) ∧
  (s.cab.sending = none → s.cab.replies = [] ∧ s.cab.notices = [] ∧ s.cab.reports = [])

/-- The notices of an event at the cab port, and the transmitter behind them (R180, R182). -/
def CabPort.afterNotices (c : CabPort) (ns : List Notice) : CabPort := (ns.foldl CabPort.placeNotice c).take

/-- The notices of a request's event at the cab port, its reply behind them, and the transmitter (R164, R180, R182). -/
def CabPort.afterRequest (c : CabPort) (ns : List Notice) (r : Reply) : CabPort :=
  CabPort.take { ns.foldl CabPort.placeNotice c with gathered := [], replies := c.replies ++ [r] }

/-! ### The chain -/

/-- The enumerator's cursor and waits by its state, the checks that wait, the count of positions (R5, R11 to R16): the
cursor is one past the last occupied position in ASSIGNING, at it in IDENTIFYING_NODE and CLOSING, at an occupied one in
CHECKING_DOWNSTREAM. -/
def Enumerator.cursorGood (e : Enumerator) : Prop :=
  e.occupancy ≤ 4 ∧ (∀ q ∈ e.pendingChecks, 1 ≤ q ∧ q ≤ e.occupancy) ∧
  (e.passWait.isSome → e.state = .closing) ∧
  match e.state with
  | .idle => e.occupancy = 0
  | .breaking => e.occupancy = 0
  | .assigning => e.cursor = some (e.occupancy + 1) ∧ e.occupancy < 4
  | .identifyingNode => e.cursor = some e.occupancy ∧ 1 ≤ e.occupancy
  | .checkingDownstream => ∃ q, e.cursor = some q ∧ 1 ≤ q ∧ q ≤ e.occupancy
  | .closing => e.cursor = some e.occupancy ∧ 1 ≤ e.occupancy ∧ e.occupancy < 4
  | .done => True
  | .halted => True

/-- The positions 1..k are the occupied ones, and a position is EMPTY, with every field of its record at its EMPTY value,
exactly when it is not occupied (R6, R61). -/
def State.chainGood (s : State) : Prop :=
  s.enumerator.cursorGood ∧
  ∀ p, 1 ≤ p → p ≤ 4 →
    (s.enumerator.occupancy < p → s.pcr p = Pcr.empty) ∧ (p ≤ s.enumerator.occupancy → (s.pcr p).state ≠ .empty)

/-! ### Bytes on the cab link -/

/-- A run of characters received with their stop bits, one CAB_BYTE_RECEIVED each. -/
def hearBytes : List Byte → State → Host.Outcome State Fault Refusal
  | [], s => .next s
  | b :: bs, s =>
    match exec (.cabByteReceived b false) s with
    | .next t => hearBytes bs t
    | .fault f => .fault f
    | .refused r => .refused r

end Sys2Proof.Machine
end

