-- ==== Sys2Proof/Certificates/Slice0/Obligations.lean ====
section
/-! DEFINITION. The statements for the provers. Each docstring says which rule of spec/ a statement formalises, or which
section it rests on; a clause that rests on a choice of the model names its log entry. In every statement that names them these
are the model's own: the clock and the expiry commands that carry it to a timer's expiry (log entry 2), the serial numbers of
transactions (log entry 13), the currents that the drivers sense (log entry 6), the receiver's HUNTING after a command that
stands for a whole frame (log entry 12), and the idle transmitter that takes a frame at the end of the event (log entry 9). -/

open Sys2Proof Sys2Proof.Machine

/-! ### The step -/

/-- Log entry 11: the command at the front of the queue runs on the state with the queue's rest.
Log entry 2 (the model's choice): with no command waiting nothing changes but the model's clock. -/
def Obligations.StepTakesTheFrontCommand : Prop :=
  (∀ (c : Instr) (rest : List Instr) (s : State),
    s.pending = c :: rest → step s = exec c { s with pending := rest }) ∧
  (∀ s : State, s.pending = [] → step s = .next { s with now := s.now + 1000 })

/-- No command touches the queue of waiting commands, and the clock never goes back (log entries 2 and 11). -/
def Obligations.CommandsKeepQueueAndClock : Prop :=
  ∀ (c : Instr) (s t : State), exec c s = .next t → t.pending = s.pending ∧ s.now ≤ t.now

/-- Power-on: what 01 to 10 give each block after power-on. The clock, the waiting commands, what the drivers sense and the
model's count of readings are not the part's to set (log entries 2, 6, 11 and 21). -/
def Obligations.PowerOnSetsEveryBlock : Prop :=
  ∀ (closed locked : Bool) (zone : Zone) (s : State), ∃ t, exec (.powerOn closed locked zone) s = .next t ∧
    t.coupling = { rawPresence := closed, presence := false
                   presenceTimer := if closed then some (s.now + 200000) else none
                   rawLock := locked, lock := locked, lockTimer := none } ∧
    (t.enumerator.state = .idle ∧ t.enumerator.occupancy = 0 ∧ t.enumerator.miss = ⟨0, 0, 0, 0⟩ ∧
      t.enumerator.cursor = none ∧ t.enumerator.attempts = 0 ∧ t.enumerator.request = .none ∧
      t.enumerator.breakRequested = false ∧ t.enumerator.passWait = none ∧ t.enumerator.busyWait = none ∧
      t.enumerator.pendingChecks = [] ∧ t.enumerator.haltCause = none) ∧
    (t.link.line = none ∧ t.link.slot = none ∧ t.link.gap = none ∧ t.link.breakState = .none ∧
      t.link.breakRequested = false ∧ t.link.rate = 2 ∧ t.link.lineCheckSeen = false ∧ t.link.stallSeen = false) ∧
    t.arbiter = { pointer := 1, scanOverdue := false } ∧
    (t.profiles.length = 24 ∧ ∀ r ∈ t.profiles,
      r = { valid := false, typeCode := 0, revLow := 0, revHigh := 0, firstStep := 0, stepCount := 1, fallback := false }) ∧
    (t.steps.length = 512 ∧ ∀ d ∈ t.steps, d = .empty) ∧
    (∀ p, t.pcr p = Pcr.empty) ∧
    ((t.translator.values.length = 128 ∧ ∀ v ∈ t.translator.values, v = 0) ∧
      t.translator.map = [] ∧ t.translator.points = [] ∧ t.translator.queue = []) ∧
    t.scanner = { map := [], initialSet := [], round := false, overdue := false, pollList := [], attention := []
                  request := none, outstanding := [], periodTimer := s.now + 100000 } ∧
    t.feed = { requests := ⟨0, 0, 0, 0⟩, waiting := [], demand := 0, floor := 0, target := 0, limit := 0, budget := 0
               movement := .steady, settleTimer := none, holdSet := [], holdTimer := none, zone := zone
               shedding := false, overBudget := false } ∧
    ((t.lamps.circuits.length = 10 ∧ ∀ x ∈ t.lamps.circuits,
        x.requested = false ∧ x.output = false ∧ x.lamp = .unchecked ∧ x.low = 0 ∧ x.high = 0 ∧ x.inn = 0 ∧
        x.deviation = 0 ∧ x.holder = none ∧ x.waiters = [] ∧ x.pulse = none) ∧
      t.lamps.roll = [] ∧ t.lamps.checkTimer = s.now + 250000) ∧
    (t.cab.gathered = [] ∧ t.cab.replies = [] ∧ t.cab.notices = [] ∧ t.cab.reports = [] ∧ t.cab.sending = none ∧
      t.cab.requestsDropped = false ∧ t.cab.noticesLost = false ∧ t.cab.reportsLost = false ∧
      t.cab.frameError = false) ∧
    t.params = { autoStart := 0, feedCap := 7, settleMs := 20, scanPeriod := 10, lampTol := 15, lampMin := 40
                 linkRate := 2 } ∧
    t.now = s.now ∧ t.pending = s.pending ∧ t.lamps.sensed = s.lamps.sensed ∧
    t.lamps.readings = s.lamps.readings

/-- The model's choice (log entry 3): an expiry of a timer that does not run or of the other stage of a break, a node word or a
window on an idle line, a TRANSACTION_END with a word that does not end the transaction, a frame end of an idle transmitter
and the like stop under their own names. -/
def Obligations.EventsThatCannotArise : Prop :=
  ∀ s : State,
    (s.coupling.presenceTimer = none → exec .presenceDebounceExpiry s = .fault .timerNotRunning) ∧
    (s.coupling.lockTimer = none → exec .lockDebounceExpiry s = .fault .timerNotRunning) ∧
    (s.enumerator.passWait = none → exec .passThroughWaitExpiry s = .fault .timerNotRunning) ∧
    (s.enumerator.busyWait = none → exec .busyWaitExpiry s = .fault .timerNotRunning) ∧
    (s.link.gap = none → exec .quietGapExpiry s = .fault .timerNotRunning) ∧
    (s.feed.settleTimer = none → exec .settleTimerExpiry s = .fault .timerNotRunning) ∧
    (s.feed.holdTimer = none → exec .lowerHoldTimerExpiry s = .fault .timerNotRunning) ∧
    (s.link.breakState = .none →
      exec .breakLowExpiry s = .fault .timerNotRunning ∧ exec .breakRecoveryEnd s = .fault .timerNotRunning) ∧
    (∀ e, s.link.breakState = .recovery e → exec .breakLowExpiry s = .fault .timerNotRunning) ∧
    (∀ e, s.link.breakState = .low e → exec .breakRecoveryEnd s = .fault .timerNotRunning) ∧
    (∀ l w, s.link.line = some l → (∀ l' o, l.word w ≠ .ends l' o) → exec (.transactionEnd w) s = .fault .wordDoesNotEnd) ∧
    (s.link.line = none →
      (∀ w, exec (.nodeWordReceived w) s = .fault .lineIdle ∧ exec (.transactionEnd w) s = .fault .lineIdle) ∧
      exec .transactionEntersEndingStatus s = .fault .lineIdle ∧ exec .answerWindowExpiry s = .fault .lineIdle ∧
      exec .transactionLimitExpiry s = .fault .lineIdle) ∧
    (∀ p, 1 ≤ p → p ≤ 4 →
      ((s.pcr p).busyTimer = none → exec (.busyRetryTimerExpiry p) s = .fault .timerNotRunning) ∧
      ((s.pcr p).waitTimer = none → exec (.waitTimerExpiry p) s = .fault .timerNotRunning)) ∧
    (∀ p, p = 0 ∨ 4 < p → exec (.busyRetryTimerExpiry p) s = .fault .noSuchUnit ∧
      exec (.waitTimerExpiry p) s = .fault .noSuchUnit) ∧
    (∀ c, 1 ≤ c → c ≤ 10 →
      ((s.circuit c).output = false → exec (.driverOvercurrentTrip c) s = .fault .driverOff) ∧
      ((s.circuit c).pulse = none → ∀ m, exec (.probePulseExpiry c m) s = .fault .timerNotRunning)) ∧
    (∀ c, c = 0 ∨ 10 < c → exec (.driverOvercurrentTrip c) s = .fault .noSuchUnit ∧
      ∀ m, exec (.probePulseExpiry c m) s = .fault .noSuchUnit) ∧
    (s.cab.gathered = [] → exec .interByteTimeout s = .fault .receiverHunting) ∧
    (s.hasRoom → exec .requestDropped s = .fault .replyQueueHasRoom) ∧
    (s.cab.sending = none → exec .transmitFrameEnd s = .fault .transmitterIdle)

/-! ### Coupling -/

/-- R1, R2: a change of a raw level back to the debounced level cancels the timer; one away from it starts the timer, or
restarts it where it runs, with its full length, 200 ms towards PRESENT, 50 ms towards ABSENT and 50 ms both ways for the
lock; nothing else changes. -/
def Obligations.RawChangesRunTheDebounces : Prop :=
  ∀ (level : Bool) (s : State),
    exec (.presenceContactChange level) s = .next { s with coupling :=
      if level = s.coupling.presence then { s.coupling with rawPresence := level, presenceTimer := none }
      else { s.coupling with
        rawPresence := level, presenceTimer := some (s.now + if level then 200000 else 50000) } } ∧
    exec (.lockSenseChange level) s = .next { s with coupling :=
      if level = s.coupling.lock then { s.coupling with rawLock := level, lockTimer := none }
      else { s.coupling with rawLock := level, lockTimer := some (s.now + 50000) } }

/-- R1, R3, R10, R18: at the expiry of the presence debounce the debounced level takes the raw level. CONNECT starts a full
enumeration, unless one is in BREAKING, and DISCONNECT leaves the enumerator IDLE; either way no position is occupied, every
position that was is EMPTY with its record at the EMPTY values, and the stores and parameters are kept. The COUPLING notice
is the first notice of the event, and a POSITION notice of each position that detaches is among those behind it.
R2, R3, R65: at the expiry of the lock debounce the debounced level takes the raw level and the COUPLING notice is placed, the
first of the event. UNLOCK does nothing else, and neither does LOCK while AUTO_START is 0 or no position is WAITING. LOCK with
AUTO_START 1 starts every WAITING position: none is WAITING after it, and each has begun at least one step. -/
def Obligations.DebounceExpiriesTakeTheLevels : Prop :=
  (∀ (s : State) (e : Nat), s.coupling.presenceTimer = some e → ∃ t, exec .presenceDebounceExpiry s = .next t ∧
    t.now = max s.now e ∧
    t.coupling = { s.coupling with presence := s.coupling.rawPresence, presenceTimer := none } ∧
    s.keepsStores t ∧ t.pending = s.pending ∧ t.cab.replies = s.cab.replies.drop (if s.cab.sending.isNone then 1 else 0) ∧
    t.enumerator.state = (if s.coupling.rawPresence then .breaking else .idle) ∧
    (s.coupling.rawPresence = true → s.enumerator.state ≠ .breaking → t.enumerator.occupancy = 0 ∧
      t.enumerator.breakRequested = true) ∧
    (s.coupling.rawPresence = false → t.enumerator.occupancy = 0) ∧
    (s.coupling.rawPresence = false ∨ s.enumerator.state ≠ .breaking →
      ∀ p, 1 ≤ p → p ≤ 4 → p ≤ s.enumerator.occupancy → t.pcr p = Pcr.empty) ∧
    ∃ rest, t.cab = s.cab.afterNotices (.coupling (if s.coupling.rawPresence then .connect else .disconnect) :: rest) ∧
      ∀ p, 1 ≤ p → p ≤ s.enumerator.occupancy →
        (s.coupling.rawPresence = true → s.enumerator.state ≠ .breaking →
          .position p .empty (some .reEnumerated) ∈ rest) ∧
        (s.coupling.rawPresence = false → .position p .empty (some .uncoupled) ∈ rest)) ∧
  (∀ (s : State) (e : Nat), s.coupling.lockTimer = some e → ∃ t, exec .lockDebounceExpiry s = .next t ∧
    t.now = max s.now e ∧ s.keepsStores t ∧ t.pending = s.pending ∧
    t.coupling = { s.coupling with lock := s.coupling.rawLock, lockTimer := none } ∧
    (∃ rest, t.cab = s.cab.afterNotices (.coupling (if s.coupling.rawLock then .lock else .unlock) :: rest)) ∧
    (s.coupling.rawLock = true → s.params.autoStart = 1 → ∀ p, 1 ≤ p → p ≤ 4 → (s.pcr p).state = .waiting →
      (t.pcr p).state ≠ .waiting ∧ 1 ≤ (t.pcr p).executed) ∧
    (s.settled → s.coupling.rawLock = false ∨ s.params.autoStart = 0 ∨
        (∀ p, 1 ≤ p → p ≤ 4 → (s.pcr p).state ≠ .waiting) →
      t = { s with
        now := max s.now e
        coupling := { s.coupling with lock := s.coupling.rawLock, lockTimer := none }
        cab := s.cab.afterNotices [.coupling (if s.coupling.rawLock then .lock else .unlock)] }))

/-! ### Cab port -/

/-- R96, R98, R102, R105, R151, R153: FUNCTION stores the value, and every circuit and point bound to the code is derived
afresh; nothing else of the map, the chain, the runs or the scanner changes. Each bound circuit follows the handover of
its requested state: neither SHORTED nor pulsed its output follows, pulsed its output stays, and a SHORTED one clears at
OFF with a CIRCUIT notice. Several of these notices stand in the order of the Function Map (the model's choice, log entry
32), ahead of the FEED notice, which is there when one of its four values has changed and stands last (log entry 8). A
code of 128 or above changes nothing. The record clauses take tables in their order, with circuit targets 1 to 10, and no
FEED_REQUEST step that waits. -/
def Obligations.FunctionStoresAndDerives : Prop :=
  ∀ (code value : Byte) (s : State), ∃ t, exec (.function code value) s = .next t ∧
    t.cab.gathered = [] ∧ s.keepsInputs t ∧ t.now = s.now ∧
    (128 ≤ code.toNat → s.settled → t = { s with cab := { s.cab with gathered := [] } }) ∧
    (code.toNat < 128 → s.feed.waiting = [] → s.tablesGood →
      t.translator.values = s.translator.values.set code.toNat value.toNat ∧
      t.translator.map = s.translator.map ∧
      (s.lamps.circuits.length = 10 → ∀ c, 1 ≤ c → c ≤ 10 →
        ((∃ e ∈ s.translator.map, e.code = code.toNat ∧ e.target = .circuit c) →
          (s.circuit c).followsHandover (t.circuit c) s.now (t.requestedState c)) ∧
        ((∀ e ∈ s.translator.map, e.code = code.toNat → e.target ≠ .circuit c) → t.circuit c = s.circuit c)) ∧
      t.cab = ({ s.cab with gathered := [] } : CabPort).afterNotices
        ((s.translator.map.filter (fun e => e.code == code.toNat)).flatMap (fun e => match e.target with
            | .circuit c => (s.circuit c).clearNotices c (t.requestedState c)
            | .point _ => []) ++
          (if t.feed.shown = s.feed.shown then [] else [t.feed.shown.notice])) ∧
      (∀ r ∈ t.translator.points,
        (∃ e ∈ s.translator.map, e.code = code.toNat ∧ e.target = .point r.key) →
        r.requested = t.requestedDuty r) ∧
      (s.settled → t.enumerator = s.enumerator ∧ t.pcrs = s.pcrs ∧ t.scanner = s.scanner ∧ t.arbiter = s.arbiter ∧
        t.lamps.roll = s.lamps.roll))

/-- R98: the mapped value of each mode, for every value and parameter a byte can hold. -/
def Obligations.MappedValuesFollowTheirModes : Prop :=
  ∀ m v : Nat, v ≤ 255 → m ≤ 255 →
    mapped .direct m v = v ∧ mapped .invert m v = 255 - v ∧
    (m ≤ v → mapped .switch m v = 255) ∧ (v < m → mapped .switch m v = 0) ∧
    (255 * mapped .scale m v ≤ v * m ∧ v * m < 255 * mapped .scale m v + 255) ∧
    (∀ mode, mapped mode m v ≤ 255) ∧ mapParam .direct m = 0 ∧ mapParam .invert m = 0

/-- R178: in HUNTING every character but a SYNC byte is discarded and a SYNC byte begins a frame; a character with a framing
fault is discarded in HUNTING, and in IN_FRAME it drops the frame, whose bytes after its SYNC byte hold no other.
R178: a dropped frame sets frame-error and leaves the receiver HUNTING, when its bytes after the SYNC byte hold no other
or its check was good; when its last byte is its only further SYNC byte, that byte begins a frame, which must go on within
1 ms. A byte that does not come in time drops the frame it is wanting in. The model's choices (log entry 12): what of a dropped
frame its command brings, when its last byte came, and that a character with a framing fault has no value to search. -/
def Obligations.ReceiverHuntsAndDropsFrames : Prop :=
  (∀ (b : Byte) (s : State),
    (s.cab.gathered = [] → b ≠ 195 →
      exec (.cabByteReceived b false) s = .next { s with cab := { s.cab with byteLimit := s.now + 1000 } }) ∧
    (s.cab.gathered = [] → b = 195 → exec (.cabByteReceived b false) s =
      .next { s with cab := { s.cab with byteLimit := s.now + 1000, gathered := [195] } }) ∧
    (s.cab.gathered = [] → exec (.cabByteReceived b true) s = .next s) ∧
    (∀ first more, s.cab.gathered = first :: more → (∀ x ∈ more, x ≠ 195) →
      exec (.cabByteReceived b true) s = .next { s with cab := { s.cab with gathered := [], frameError := true } })) ∧
  (∀ (finding : FrameFinding) (rest : List Byte) (s : State),
    (∃ t, exec (.cabFrameDropped finding rest) s = .next t) ∧
    (finding = .wrongKind ∨ finding = .wrongFunctionLength ∨ (∀ x ∈ (s.cab.gathered ++ rest).tail, x ≠ 195) →
      exec (.cabFrameDropped finding rest) s =
        .next { s with cab := { s.cab with gathered := [], frameError := true, byteLimit := s.now + 1000 } }) ∧
    (finding = .badLength ∨ finding = .badCheck → ∀ pre, (s.cab.gathered ++ rest).tail = pre ++ [195] →
      (∀ x ∈ pre, x ≠ 195) → exec (.cabFrameDropped finding rest) s =
        .next { s with cab := { s.cab with gathered := [195], frameError := true, byteLimit := s.now + 1000 } }) ∧
    (s.cab.gathered ≠ [] → exec .interByteTimeout s = .next { s with
      now := max s.now s.cab.byteLimit, cab := { s.cab with gathered := [], frameError := true } }))

/-- R184, R185, R186: the payload of every management request reads back as that request, every field at every value. -/
def Obligations.RequestPayloadsReadBack : Prop :=
  ∀ (c : Instr) (payload : List Byte), encodeRequest c = some payload → decodeRequest payload = c

/-- R177: SYNC, kind, length, payload and the check, high byte first; the receiver finds in such bytes the frame they carry, and
none in a frame whose length byte is above 30. Requests travel as kind 2, FUNCTION as kind 1, replies, notices and reports as
kinds 3, 4 and 5. -/
def Obligations.FramesCarryKindLengthAndSum : Prop :=
  (∀ (kind : Nat) (payload : List Byte), kind < 256 → payload.length ≤ 30 →
    (∃ hi lo : Byte,
      frameBytes kind payload = [195, BitVec.ofNat 8 kind, BitVec.ofNat 8 payload.length] ++ payload ++ [hi, lo] ∧
      hi.toNat * 256 + lo.toNat = (195 + kind + payload.length + (payload.map (·.toNat)).sum) % 65536) ∧
    judgeFrame (frameBytes kind payload) = .frame kind payload []) ∧
  (∀ (kind len : Byte) (more : List Byte), 30 < len.toNat → judgeFrame (195 :: kind :: len :: more) = .searchAgain) ∧
  (∀ r, TxFrame.bytes (.reply r) = frameBytes 3 r.payload) ∧ (∀ n, TxFrame.bytes (.notice n) = frameBytes 4 n.payload) ∧
  (∀ r, TxFrame.bytes (.report r) = frameBytes 5 r.payload) ∧
  (∀ (s : State) (p : List Byte), s.takeFrame 2 p = s.runRequest (decodeRequest p)) ∧
  (∀ (s : State) (code value : Byte), s.takeFrame 1 [code, value] = s.doFunction code value)

/-- R177, R178, R179 (log entry 12): the bytes of a whole frame, received one after another by a hunting receiver, run the
command that the frame carries, as that command alone does. -/
def Obligations.FrameBytesRunTheirCommand : Prop :=
  ∀ s : State, s.cab.gathered = [] →
    (∀ (c : Instr) (payload : List Byte), encodeRequest c = some payload → payload.length ≤ 30 →
      hearBytes (frameBytes 2 payload) s = exec c { s with cab := { s.cab with byteLimit := s.now + 1000 } }) ∧
    (∀ code value : Byte, hearBytes (frameBytes 1 [code, value]) s =
      exec (.function code value) { s with cab := { s.cab with byteLimit := s.now + 1000 } })

/-- R164, R179: a request that finds four replies waiting is neither executed nor answered, and requests-dropped is set.
R164, R165, R166: every request that finds room is answered by one reply with its own tag and code, and a refused one
changes nothing but the cab port, in any block. RESTART, whose reply is the only one left, has its own statement. -/
def Obligations.EveryRequestIsAnsweredOrDropped : Prop :=
  (∀ s : State, ¬ s.hasRoom →
    (∀ c, (encodeRequest c).isSome ∨ (∃ form, c = .badRequest form) →
      exec c s = .next { s with cab := { s.cab with gathered := [], requestsDropped := true } }) ∧
    exec .requestDropped s = .next { s with cab := { s.cab with gathered := [], requestsDropped := true } }) ∧
  ((∀ (c : Instr) (tag code : Byte) (fields : List Byte) (s : State),
    encodeRequest c = some (tag :: code :: fields) → code ≠ 21 → s.hasRoom →
    ∃ t r, exec c s = .next t ∧ s.repliesWith t r ∧ r.tag = tag ∧ r.code = code ∧
      (r.result ≠ .ok → r.data = [] ∧ t = s.answered r)) ∧
  (∀ (tag code : Byte) (s : State), s.hasRoom →
    exec (.badRequest (some (tag, code))) s = .next (s.answered ⟨tag, code, .badRequest, []⟩)) ∧
  (∀ s : State, s.hasRoom → exec (.badRequest none) s = .next (s.answered ⟨0, 0, .badRequest, []⟩)))

/-- R182: when a frame has been sent, the transmitter takes the head of the Reply Queue, else of the Notice Queue, else of the
Report Queue, and is idle when all three are empty.
R180, R181: what a placed notice and a placed report do to their queues, for a Report Queue whose keys differ. -/
def Obligations.CabQueuesPlaceAndTake : Prop :=
  (∀ (s : State) (f : TxFrame), s.cab.sending = some f →
    (∀ r rs, s.cab.replies = r :: rs →
      exec .transmitFrameEnd s = .next { s with cab := { s.cab with sending := some (.reply r), replies := rs } }) ∧
    (∀ n ns, s.cab.replies = [] → s.cab.notices = n :: ns →
      exec .transmitFrameEnd s = .next { s with cab := { s.cab with sending := some (.notice n), notices := ns } }) ∧
    (∀ r rs, s.cab.replies = [] → s.cab.notices = [] → s.cab.reports = r :: rs →
      exec .transmitFrameEnd s = .next { s with cab := { s.cab with sending := some (.report r), reports := rs } }) ∧
    (s.cab.replies = [] → s.cab.notices = [] → s.cab.reports = [] →
      exec .transmitFrameEnd s = .next { s with cab := { s.cab with sending := none } })) ∧
  (∀ c : CabPort,
    (∀ n, (c.notices.length < 16 → c.placeNotice n = { c with notices := c.notices ++ [n] }) ∧
      (16 ≤ c.notices.length → c.placeNotice n = { c with noticesLost := true })) ∧
    (∀ r : Report, c.reports.Pairwise Report.differ →
      ((∃ q ∈ c.reports, q.code = r.code ∧ q.pos = r.pos) → c.placeReport r = { c with
        reports := c.reports.map (fun q => if q.code = r.code ∧ q.pos = r.pos then r else q) }) ∧
      ((∀ q ∈ c.reports, ¬(q.code = r.code ∧ q.pos = r.pos)) →
        (c.reports.length < 32 → c.placeReport r = { c with reports := c.reports ++ [r] }) ∧
        (32 ≤ c.reports.length → c.placeReport r = { c with reportsLost := true }))))

/-! ### Management requests -/

/-- R167, R168, Table 10-1: IDENTIFY answers vendor code 5203, part code 412 and revision 1; GET_PARAM answers the value
stored, and an unknown parameter with BAD_VALUE. Nothing else changes.
R144, R167, Table 10-2: GET_STATUS answers the 23 bytes of the snapshot, the six flags as they stand, and then clears the
cab port's four; the two link flags stay. -/
def Obligations.IdentityStatusAndParameterReads : Prop :=
  (∀ (tag id : Byte) (s : State), s.hasRoom →
    exec (.identify tag) s = .next (s.answered ⟨tag, 1, .ok, [0x53, 0x14, 0x9C, 0x01, 0x01]⟩) ∧
    exec (.getParam tag id) s = .next (s.answered (
      if id = 1 then ⟨tag, 4, .ok, twoBytes s.params.autoStart⟩
      else if id = 2 then ⟨tag, 4, .ok, twoBytes s.params.feedCap⟩
      else if id = 3 then ⟨tag, 4, .ok, twoBytes s.params.settleMs⟩
      else if id = 4 then ⟨tag, 4, .ok, twoBytes s.params.scanPeriod⟩
      else if id = 5 then ⟨tag, 4, .ok, twoBytes s.params.lampTol⟩
      else if id = 6 then ⟨tag, 4, .ok, twoBytes s.params.lampMin⟩
      else if id = 7 then ⟨tag, 4, .ok, twoBytes s.params.linkRate⟩
      else ⟨tag, 4, .badValue, []⟩))) ∧
  (∀ (tag : Byte) (s : State), s.hasRoom → exec (.getStatus tag) s = .next (
    ({ s with cab := { s.cab with
        requestsDropped := false, noticesLost := false, reportsLost := false, frameError := false } }).answered
      ⟨tag, 2, .ok,
        [byteOf s.enumerator.occupancy, byteOf (s.pcr 1).state.code, byteOf (s.pcr 2).state.code,
         byteOf (s.pcr 3).state.code, byteOf (s.pcr 4).state.code, byteOf s.enumerator.state.code,
         byteOf ((if s.coupling.presence then 1 else 0) + (if s.coupling.lock then 2 else 0)),
         byteOf s.feed.limit, byteOf s.feed.budget, byteOf s.feed.target, byteOf (zoneCode s.feed.zone),
         byteOf ((if s.feed.shedding then 1 else 0) + (if s.feed.overBudget then 2 else 0)),
         byteOf (s.circuit 1).lamp.code, byteOf (s.circuit 2).lamp.code, byteOf (s.circuit 3).lamp.code,
         byteOf (s.circuit 4).lamp.code, byteOf (s.circuit 5).lamp.code, byteOf (s.circuit 6).lamp.code,
         byteOf (s.circuit 7).lamp.code, byteOf (s.circuit 8).lamp.code, byteOf (s.circuit 9).lamp.code,
         byteOf (s.circuit 10).lamp.code,
         byteOf ((if s.cab.requestsDropped then 1 else 0) + (if s.cab.noticesLost then 2 else 0) +
           (if s.cab.reportsLost then 4 else 0) + (if s.cab.frameError then 8 else 0) +
           (if s.link.lineCheckSeen then 16 else 0) + (if s.link.stallSeen then 32 else 0))]⟩))

/-- R168: SET_PARAM stores the value clamped to the parameter's range and answers it; AUTO_START of 0 and the parameters 3 to
7 change nothing else; an unknown parameter is refused. For AUTO_START of 1 and for FEED_CAP see the statements of the runs
and of the feed. -/
def Obligations.SetParamClampsAndStores : Prop :=
  ∀ (tag id : Byte) (value : Half) (s : State), s.hasRoom →
    (id = 1 → value.toNat = 0 → exec (.setParam tag id value) s =
      .next (({ s with params := { s.params with autoStart := 0 } }).answered ⟨tag, 3, .ok, [0, 0]⟩)) ∧
    (id = 1 → 1 ≤ value.toNat → ∃ t, exec (.setParam tag id value) s = .next t ∧
      t.params = { s.params with autoStart := 1 } ∧ s.repliesWith t ⟨tag, 3, .ok, [1, 0]⟩ ∧
      t.profiles = s.profiles ∧ t.steps = s.steps ∧ t.coupling = s.coupling ∧ t.now = s.now) ∧
    (id = 2 → ∃ t, exec (.setParam tag id value) s = .next t ∧
      t.params = { s.params with feedCap := min 7 value.toNat } ∧
      s.repliesWith t ⟨tag, 3, .ok, [byteOf (min 7 value.toNat), 0]⟩ ∧
      t.profiles = s.profiles ∧ t.steps = s.steps ∧ t.coupling = s.coupling ∧ t.now = s.now) ∧
    (id = 3 → exec (.setParam tag id value) s =
      .next (({ s with params := { s.params with settleMs := max 1 (min 255 value.toNat) } }).answered
        ⟨tag, 3, .ok, twoBytes (max 1 (min 255 value.toNat))⟩)) ∧
    (id = 4 → exec (.setParam tag id value) s =
      .next (({ s with params := { s.params with scanPeriod := max 2 (min 100 value.toNat) } }).answered
        ⟨tag, 3, .ok, twoBytes (max 2 (min 100 value.toNat))⟩)) ∧
    (id = 5 → exec (.setParam tag id value) s =
      .next (({ s with params := { s.params with lampTol := min 50 value.toNat } }).answered
        ⟨tag, 3, .ok, twoBytes (min 50 value.toNat)⟩)) ∧
    (id = 6 → exec (.setParam tag id value) s =
      .next (({ s with params := { s.params with lampMin := max 10 (min 500 value.toNat) } }).answered
        ⟨tag, 3, .ok, twoBytes (max 10 (min 500 value.toNat))⟩)) ∧
    (id = 7 → exec (.setParam tag id value) s =
      .next (({ s with params := { s.params with linkRate := max 1 (min 3 value.toNat) } }).answered
        ⟨tag, 3, .ok, twoBytes (max 1 (min 3 value.toNat))⟩)) ∧
    (id = 0 ∨ 7 < id.toNat → exec (.setParam tag id value) s = .next (s.answered ⟨tag, 3, .badValue, []⟩))

/-- R45, R46, R49, R60, R169: LOAD_PROFILE stores a record whose structure is right, clears the fallback mark everywhere else
when the record carries it, and matches the waiting and unprofiled positions again, whatever AUTO_START is: one that comes to
WAITING starts its run at once with AUTO_START 1 and the lock LOCKED, and no run starts otherwise; a wrong structure is
refused first, then a slot in use. -/
def Obligations.LoadProfileStoresAndRematches : Prop :=
  ∀ (tag slot : Byte) (r : RawProfile) (s : State), s.hasRoom →
    let wrong := 24 ≤ slot.toNat ∨ 511 < r.firstStep.toNat ∨ r.stepCount.toNat = 0 ∨ 512 < r.stepCount.toNat ∨
      512 < r.firstStep.toNat + r.stepCount.toNat ∨ r.revHigh.toNat < r.revLow.toNat ∨
      (r.fallback = true ∧ r.valid = false)
    let inUse := s.slotInUse slot.toNat = true ∨
      (r.fallback = true ∧ ∃ q, q < 24 ∧ q ≠ slot.toNat ∧ (s.profile q).fallback = true ∧ s.slotInUse q = true)
    (wrong → exec (.loadProfile tag slot r) s = .next (s.answered ⟨tag, 5, .badValue, []⟩)) ∧
    (¬ wrong → inUse → exec (.loadProfile tag slot r) s = .next (s.answered ⟨tag, 5, .inUse, []⟩)) ∧
    (¬ wrong → ¬ inUse → s.profiles.length = 24 → ∃ t, exec (.loadProfile tag slot r) s = .next t ∧
      s.repliesWith t ⟨tag, 5, .ok, [slot]⟩ ∧ t.steps = s.steps ∧ t.params = s.params ∧ t.coupling = s.coupling ∧
      t.profiles.length = 24 ∧
      t.profile slot.toNat = { valid := r.valid, typeCode := r.typeCode.toNat, revLow := r.revLow.toNat
                               revHigh := r.revHigh.toNat, firstStep := r.firstStep.toNat
                               stepCount := r.stepCount.toNat, fallback := r.fallback } ∧
      (∀ q, q < 24 → q ≠ slot.toNat → t.profile q =
        (if r.fallback then { s.profile q with fallback := false } else s.profile q)) ∧
      (∀ p, 1 ≤ p → p ≤ 4 → p ≤ s.enumerator.occupancy →
        (s.pcr p).state = .waiting ∨ ((s.pcr p).state = .unprofiled ∧ (s.pcr p).profileSlot = none) →
        (t.pcr p).profileSlot = t.matchSlot (s.pcr p).identity ∧
        ((t.matchSlot (s.pcr p).identity).isNone → (t.pcr p).state = .unprofiled) ∧
        ((t.matchSlot (s.pcr p).identity).isSome →
          ((s.pcr p).state = .waiting ∨ ¬(s.params.autoStart = 1 ∧ s.coupling.lock = true) →
            (t.pcr p).state = .waiting) ∧
          ((s.pcr p).state = .unprofiled → s.params.autoStart = 1 → s.coupling.lock = true →
            (t.pcr p).state ≠ .waiting ∧ (t.pcr p).state ≠ .unprofiled ∧ 1 ≤ (t.pcr p).executed))))

/-- R44, R47, R60: CLEAR_PROFILE makes the slot's record invalid with the power-on values, the fallback mark gone with it;
a slot above 23 is refused with BAD_VALUE, a slot in use with IN_USE; the positions waiting or without a profile are matched
again, whatever AUTO_START is, and one that comes to WAITING starts its run as R65 gives. -/
def Obligations.ClearProfileInvalidates : Prop :=
  ∀ (tag slot : Byte) (s : State), s.hasRoom →
    (24 ≤ slot.toNat → exec (.clearProfile tag slot) s = .next (s.answered ⟨tag, 6, .badValue, []⟩)) ∧
    (slot.toNat < 24 → s.slotInUse slot.toNat = true →
      exec (.clearProfile tag slot) s = .next (s.answered ⟨tag, 6, .inUse, []⟩)) ∧
    (slot.toNat < 24 → s.slotInUse slot.toNat = false → ∃ t, exec (.clearProfile tag slot) s = .next t ∧
      s.repliesWith t ⟨tag, 6, .ok, []⟩ ∧ t.steps = s.steps ∧ t.params = s.params ∧ t.coupling = s.coupling ∧
      t.profiles = s.profiles.set slot.toNat
        { valid := false, typeCode := 0, revLow := 0, revHigh := 0, firstStep := 0, stepCount := 1, fallback := false } ∧
      (fallbackGood s.profiles → (s.profile slot.toNat).fallback = true → ∀ r ∈ t.profiles, r.fallback = false) ∧
      (∀ p, 1 ≤ p → p ≤ 4 → p ≤ s.enumerator.occupancy →
        (s.pcr p).state = .waiting ∨ ((s.pcr p).state = .unprofiled ∧ (s.pcr p).profileSlot = none) →
        (t.pcr p).profileSlot = t.matchSlot (s.pcr p).identity ∧
        ((t.matchSlot (s.pcr p).identity).isNone → (t.pcr p).state = .unprofiled) ∧
        ((t.matchSlot (s.pcr p).identity).isSome →
          ((s.pcr p).state = .waiting ∨ ¬(s.params.autoStart = 1 ∧ s.coupling.lock = true) →
            (t.pcr p).state = .waiting) ∧
          ((s.pcr p).state = .unprofiled → s.params.autoStart = 1 → s.coupling.lock = true →
            (t.pcr p).state ≠ .waiting ∧ (t.pcr p).state ≠ .unprofiled ∧ 1 ≤ (t.pcr p).executed))))

/-- R51, R52, R58, R59, R60, R169: LOAD_STEPS stores one to three descriptors at an index and the indices after it, each as
its operation clamps it, or refuses the whole request and stores nothing.
R53, R54 to R57, R58, R59, Table 10-6: for each of the twelve operations, what the eight bytes of a descriptor must be, and what
is stored of them; every other operation is refused. -/
def Obligations.LoadStepsStoresOrRefuses : Prop :=
  (∀ d : RawStep,
    let high := d.b0.toNat / 16
    let count := d.b3.toNat % 8 + 1
    let wide := d.b4.toNat + 256 * d.b5.toNat
    let param := d.b6.toNat + 256 * d.b7.toNat
    let disp : Int := if d.b6.toNat % 32 < 16 then (d.b6.toNat % 32 : Nat) else ((d.b6.toNat % 32 : Nat) : Int) - 32
    let cls := if high = 0 then OutClass.safety else .comfort
    let mode := if d.b1.toNat / 32 = 0 then MapMode.direct else if d.b1.toNat / 32 = 1 then .invert
      else if d.b1.toNat / 32 = 2 then .switch else .scale
    let filter := if high = 0 then Filter.change else .delta
    let cond := if high = 0 then TestCond.zero else if high = 1 then .nonzero else if high = 2 then .below
      else if high = 3 then .above else .equal
    let f : StepFlags := { chain := bit d.b1 0, critical := bit d.b1 1, suppress := bit d.b1 2, skip := bit d.b1 3
                           notify := bit d.b1 4 }
    let odd := fun (a : Byte) => a.toNat % 2 = 1 ∧ a.toNat ≠ 1
    let even := fun (a : Byte) => a.toNat % 2 = 0 ∧ a.toNat ≠ 2
    let circuit := 1 ≤ d.b2.toNat ∧ d.b2.toNat ≤ 10
    let plain := f.critical = false ∧ f.suppress = false ∧ f.skip = false
    let stores := fun (n : Nat) (right : Prop) (op : StepOp) => d.b0.toNat % 16 = n →
      (right → storedStep d = some (.step f op)) ∧ (¬ right → storedStep d = none)
    stores 1 (odd d.b2 ∧ count ≤ 2 ∧ high ≤ 1 ∧ f.skip = false) (.writePoint d.b2.toNat count (high == 1)
      (if high = 1 then 0 else if count = 1 then min 255 wide else wide)) ∧
    stores 2 (even d.b2) (.readPoint d.b2.toNat count) ∧
    stores 3 (f.suppress = false ∧ f.skip = false) .sense ∧
    stores 4 (d.b2.toNat < 128 ∧ odd d.b3 ∧ high ≤ 1 ∧ d.b1.toNat / 32 ≤ 3 ∧ f.suppress = false ∧ f.skip = false)
      (.bindOut d.b2.toNat d.b3.toNat cls (min 4095 wide) mode
        (if d.b1.toNat / 32 ≤ 1 then 0 else min 255 param)) ∧
    stores 5 (even d.b2 ∧ d.b3.toNat < 128 ∧ high ≤ 1 ∧ f.suppress = false ∧ f.skip = false)
      (.bindIn d.b2.toNat d.b3.toNat filter (if high = 0 then 0 else max 1 wide)) ∧
    stores 6 (circuit ∧ plain) (.bindLoad d.b2.toNat (min 8191 wide)) ∧
    stores 7 (f.skip = false) (.feedRequest (min 7 d.b2.toNat)) ∧
    stores 8 plain (.wait (max 1 d.b2.toNat)) ∧
    stores 9 (circuit ∧ f.skip = false) (.lampProbe d.b2.toNat (min 8191 wide)) ∧
    stores 10 (high ≤ 4 ∧ plain) (.test cond (if high ≤ 1 then 0 else wide) disp) ∧
    stores 11 plain (.setCount d.b2.toInt) ∧
    stores 12 plain (.count disp) ∧
    (d.b0.toNat % 16 = 0 ∨ 13 ≤ d.b0.toNat % 16 → storedStep d = none)) ∧
  ∀ (tag : Byte) (first : Half) (ds : List RawStep) (s : State), s.hasRoom →
    let i := first.toNat
    (ds.length = 0 ∨ 3 < ds.length ∨ 512 < i + ds.length ∨ (∃ d ∈ ds, storedStep d = none) →
      exec (.loadSteps tag first ds) s = .next (s.answered ⟨tag, 7, .badValue, []⟩)) ∧
    (∀ xs : List Descriptor, ds.map storedStep = xs.map some → 1 ≤ ds.length → ds.length ≤ 3 → i + ds.length ≤ 512 →
      ((∃ j, i ≤ j ∧ j < i + ds.length ∧ s.stepInUse j = true) →
        exec (.loadSteps tag first ds) s = .next (s.answered ⟨tag, 7, .inUse, []⟩)) ∧
      ((∀ j, i ≤ j → j < i + ds.length → s.stepInUse j = false) → s.steps.length = 512 →
        exec (.loadSteps tag first ds) s = .next (
          ({ s with steps := s.steps.take i ++ xs ++ s.steps.drop (i + ds.length) }).answered
            ⟨tag, 7, .ok, twoBytes i ++ [byteOf ds.length]⟩)))

/-- R51, R99, R116, R154, R170: READ_ENTRY answers the entry at the index, NOT_FOUND at an index beyond the entries held, and
BAD_VALUE for a table it does not know. It changes nothing.
R94, R174, Table 10-3: READ_CONTEXT answers the snapshot of the position's record, in EMPTY the state alone, and changes
nothing. Of the 27 bytes each is given: an absent identity, slot, step index, status or cause is shown as 0 with its presence
bit clear in byte 25.
R185, R186, Tables 10-5 and 10-6: the bytes of a profile record, of a step descriptor of each operation, and of the entries of
the function map, the report map and the load roll. -/
def Obligations.EntriesAndContextsAreRead : Prop :=
  (∀ (tag table : Byte) (index : Half) (s : State), s.hasRoom →
    let i := index.toNat
    let found := fun (bytes : List Byte) =>
      exec (.readEntry tag table index) s = .next (s.answered ⟨tag, 8, .ok, bytes⟩)
    let absent := exec (.readEntry tag table index) s = .next (s.answered ⟨tag, 8, .notFound, []⟩)
    (table = 0 → (∀ r, s.profiles[i]? = some r → found r.bytes) ∧ (s.profiles.length ≤ i → absent)) ∧
    (table = 1 → (∀ d, s.steps[i]? = some d → found d.bytes) ∧ (s.steps.length ≤ i → absent)) ∧
    (table = 2 → (∀ e, s.translator.map[i]? = some e → found (s.mapEntryBytes e)) ∧
      (s.translator.map.length ≤ i → absent)) ∧
    (table = 3 → (∀ e, s.scanner.map[i]? = some e → found e.bytes) ∧ (s.scanner.map.length ≤ i → absent)) ∧
    (table = 4 → (∀ e, s.lamps.roll[i]? = some e → found e.bytes) ∧ (s.lamps.roll.length ≤ i → absent)) ∧
    (4 < table.toNat → exec (.readEntry tag table index) s = .next (s.answered ⟨tag, 8, .badValue, []⟩))) ∧
  (∀ (tag pos : Byte) (s : State), s.hasRoom →
    let p := pos.toNat
    let x := s.pcr p
    (p = 0 ∨ 4 < p → exec (.readContext tag pos) s = .next (s.answered ⟨tag, 18, .badValue, []⟩)) ∧
    (1 ≤ p → p ≤ 4 → x.state = .empty → exec (.readContext tag pos) s = .next (s.answered ⟨tag, 18, .ok, [0]⟩)) ∧
    (1 ≤ p → p ≤ 4 → x.state ≠ .empty → x.sense.length ≤ 4 → ∃ data, data.length = 27 ∧
      exec (.readContext tag pos) s = .next (s.answered ⟨tag, 18, .ok, data⟩) ∧
      data.take 1 = [byteOf x.state.code] ∧
      (∀ i, x.identity = some i → (data.drop 1).take 4 =
        [byteOf i.typeCode, byteOf (i.typeCode / 256), byteOf i.revision, byteOf i.pointCount]) ∧
      (x.identity = none → (data.drop 1).take 4 = [0, 0, 0, 0]) ∧
      (data.drop 5).take 4 = [byteOf (x.profileSlot.getD 0), byteOf (x.stepIndex.getD 0),
        byteOf (x.stepIndex.getD 0 / 256), byteOf x.phase.code] ∧
      (data.drop 9).take 8 = [byteOf x.executed, byteOf (x.executed / 256), byteOf x.v, byteOf (x.v / 256),
        BitVec.ofInt 8 x.x, byteOf x.attempts, byteOf x.busyRetries, byteOf x.residual] ∧
      (∀ st, x.lastInitial = some st → (data.drop 17).take 1 = [byteOf ((if st.busy then 1 else 0) +
        (if st.unitCheck then 2 else 0) + (if st.pointInvalid then 4 else 0) + (if st.attention then 8 else 0) +
        (if st.downstreamChange then 16 else 0))]) ∧
      (x.lastInitial = none → (data.drop 17).take 1 = [0]) ∧
      (data.drop 18).take 1 = [if x.lastEnding = some .complete then 1 else if x.lastEnding = some .short then 2
        else if x.lastEnding = some .unitCheck then 4 else 0] ∧
      (data.drop 19).take (1 + x.sense.length) = byteOf x.sense.length :: x.sense ∧
      (∀ j, x.sense.length ≤ j → j < 4 → data[20 + j]? = some 0) ∧
      (data.drop 24).take 1 = [byteOf (causeCode x.cause)] ∧
      (data.drop 25).take 1 = [byteOf ((if x.degraded then 1 else 0) + (if x.holdPending then 2 else 0) +
        (if x.identity.isSome then 4 else 0) + (if x.profileSlot.isSome then 8 else 0) +
        (if x.stepIndex.isSome then 16 else 0) + (if x.lastInitial.isSome then 32 else 0) +
        (if x.lastEnding.isSome then 64 else 0) + (if x.cause.isSome then 128 else 0))] ∧
      data.drop 26 = [byteOf (s.feed.requests.get p)])) ∧
  (∀ r : Profile, r.bytes = [byteOf ((if r.valid then 1 else 0) + (if r.fallback then 2 else 0)),
    byteOf r.typeCode, byteOf (r.typeCode / 256), byteOf r.revLow, byteOf r.revHigh,
    byteOf r.firstStep, byteOf (r.firstStep / 256), byteOf r.stepCount, byteOf (r.stepCount / 256)]) ∧
  (Descriptor.bytes .empty = [0, 0, 0, 0, 0, 0, 0, 0] ∧
    ∀ f : StepFlags,
      let flags := (if f.chain then 1 else 0) + (if f.critical then 2 else 0) + (if f.suppress then 4 else 0) +
        (if f.skip then 8 else 0) + (if f.notify then 16 else 0)
      let shown := fun (op : StepOp) (bytes : List Byte) => Descriptor.bytes (.step f op) = bytes
      let low := fun (d : Int) => byteOf (if d < 0 then (d + 32).toNat else d.toNat)
      (∀ a n fromV v, shown (.writePoint a n fromV v) [byteOf (if fromV then 17 else 1), byteOf flags, byteOf a,
        byteOf (n - 1), byteOf v, byteOf (v / 256), 0, 0]) ∧
      (∀ a n, shown (.readPoint a n) [2, byteOf flags, byteOf a, byteOf (n - 1), 0, 0, 0, 0]) ∧
      shown .sense [3, byteOf flags, 0, 0, 0, 0, 0, 0] ∧
      (∀ code a cls n mode param, shown (.bindOut code a cls n mode param)
        [(if cls = .safety then 4 else 20), byteOf (flags + if mode = .direct then 0 else if mode = .invert then 32
          else if mode = .switch then 64 else 96), byteOf code, byteOf a, byteOf n, byteOf (n / 256), byteOf param,
         byteOf (param / 256)]) ∧
      (∀ a code filter n, shown (.bindIn a code filter n)
        [(if filter = .change then 5 else 21), byteOf flags, byteOf a, byteOf code, byteOf n, byteOf (n / 256), 0, 0]) ∧
      (∀ c n, shown (.bindLoad c n) [6, byteOf flags, byteOf c, 0, byteOf n, byteOf (n / 256), 0, 0]) ∧
      (∀ c, shown (.feedRequest c) [7, byteOf flags, byteOf c, 0, 0, 0, 0, 0]) ∧
      (∀ n, shown (.wait n) [8, byteOf flags, byteOf n, 0, 0, 0, 0, 0]) ∧
      (∀ c n, shown (.lampProbe c n) [9, byteOf flags, byteOf c, 0, byteOf n, byteOf (n / 256), 0, 0]) ∧
      (∀ cond v (d : Int), -16 ≤ d → d ≤ 15 → shown (.test cond v d)
        [(if cond = .zero then 10 else if cond = .nonzero then 26 else if cond = .below then 42
          else if cond = .above then 58 else 74), byteOf flags, 0, 0, byteOf v, byteOf (v / 256), low d, 0]) ∧
      (∀ x : Int, shown (.setCount x) [11, byteOf flags, BitVec.ofInt 8 x, 0, 0, 0, 0, 0]) ∧
      (∀ d : Int, -16 ≤ d → d ≤ 15 → shown (.count d) [12, byteOf flags, 0, 0, 0, 0, low d, 0])) ∧
  (∀ (s : State) (e : MapEntry),
    let mode : Byte := if e.mode = .direct then 0 else if e.mode = .invert then 1 else if e.mode = .switch then 2 else 3
    (∀ c, e.target = .circuit c → s.mapEntryBytes e =
      [byteOf e.code, 0, byteOf c, 0, mode, byteOf e.param, byteOf e.owner, 0, 0, 0, 0, 0, 0, 0]) ∧
    (∀ r ∈ s.translator.points, e.target = .point r.key → ordered OutRec.before s.translator.points →
      s.mapEntryBytes e =
      [byteOf e.code, 1, byteOf r.key.pos, byteOf r.key.point, mode, byteOf e.param, byteOf e.owner,
       (if r.cls = .safety then 0 else 1), byteOf r.nominal, byteOf (r.nominal / 256), byteOf r.requested,
       byteOf r.applied, byteOf (r.accepted.getD 0),
       byteOf ((if r.faulted then 1 else 0) + (if r.retiring then 2 else 0) + (if r.accepted.isSome then 4 else 0) +
         (if r.write = .idle then 0 else if r.write = .queued then 8 else 16))])) ∧
  (∀ e : ReportEntry, e.bytes = [byteOf e.key.pos, byteOf e.key.point, byteOf e.code,
    (if e.filter = .change then 0 else 1), byteOf e.threshold, byteOf (e.threshold / 256),
    byteOf (e.last.getD 0), byteOf (e.last.getD 0 / 256), (if e.last.isSome then 1 else 0), byteOf e.owner]) ∧
  (∀ e : LoadEntry, e.bytes = [byteOf e.pos, byteOf e.circuit, byteOf e.nominal, byteOf (e.nominal / 256)])

/-- R98, R100, R102, R151, R153, R171: BIND_FUNCTION to a wired circuit makes or replaces the entry of its code and circuit with
owner 0 and derives the circuit, which follows the handover of its requested state, a short that clears with its CIRCUIT
notice; the class and nominal current are not examined, and the reply's nominal current is 0 (log entry 18).
R171: a target kind of 2 or above is refused with BAD_VALUE, whatever the other fields are. -/
def Obligations.BindFunctionToACircuit : Prop :=
  ∀ (tag code place point mode cls : Byte) (param nominal : Half) (s : State), s.hasRoom →
    (128 ≤ code.toNat ∨ place.toNat = 0 ∨ 10 < place.toNat ∨ 3 < mode.toNat →
      exec (.bindFunction tag code 0 place point mode param cls nominal) s =
        .next (s.answered ⟨tag, 9, .badValue, []⟩)) ∧
    (∀ kind : Byte, 2 ≤ kind.toNat → exec (.bindFunction tag code kind place point mode param cls nominal) s =
      .next (s.answered ⟨tag, 9, .badValue, []⟩)) ∧
    (∀ m, MapMode.ofCode mode.toNat = some m → code.toNat < 128 → 1 ≤ place.toNat → place.toNat ≤ 10 →
      let e : MapEntry := { code := code.toNat, target := .circuit place.toNat, mode := m
                            param := mapParam m param.toNat, owner := 0 }
      let known := ∃ o ∈ s.translator.map, o.code = e.code ∧ o.target = e.target
      (¬ known → 96 ≤ s.translator.map.length →
        exec (.bindFunction tag code 0 place point mode param cls nominal) s =
          .next (s.answered ⟨tag, 9, .tableFull, []⟩)) ∧
      (known ∨ s.translator.map.length < 96 → s.tablesGood → s.lamps.circuits.length = 10 →
        ∃ t, exec (.bindFunction tag code 0 place point mode param cls nominal) s = .next t ∧
          s.repliesWith t ⟨tag, 9, .ok, [0, 0, byteOf e.param]⟩ ∧ s.keepsInputs t ∧ t.now = s.now ∧
          (∀ o, o ∈ t.translator.map ↔
            o = e ∨ (o ∈ s.translator.map ∧ ¬(o.code = e.code ∧ o.target = e.target))) ∧
          (s.circuit place.toNat).followsHandover (t.circuit place.toNat) s.now (t.requestedState place.toNat) ∧
          t.cab = s.cab.afterRequest
            ((s.circuit place.toNat).clearNotices place.toNat (t.requestedState place.toNat))
            ⟨tag, 9, .ok, [0, 0, byteOf e.param]⟩ ∧
          (∀ c, 1 ≤ c → c ≤ 10 → c ≠ place.toNat → t.circuit c = s.circuit c) ∧
          t.translator.values = s.translator.values ∧ t.lamps.roll = s.lamps.roll ∧
          (s.settled → t.feed = s.feed ∧ t.pcrs = s.pcrs ∧ t.scanner = s.scanner ∧ t.link = s.link ∧
            t.enumerator = s.enumerator ∧ t.translator.points = s.translator.points)))

/-- R99, R100, R104, R105, R171: BIND_FUNCTION to a point checks structure, presence and capacity in that order, makes or
replaces the entry of its code and point, and makes the record of the point, or overwrites its class and nominal current and
clears its faulted and retiring flags; its duty is the greatest mapped value. -/
def Obligations.BindFunctionToAPoint : Prop :=
  ∀ (tag code place point mode cls : Byte) (param nominal : Half) (s : State), s.hasRoom →
    (128 ≤ code.toNat ∨ place.toNat = 0 ∨ 4 < place.toNat ∨ point.toNat % 2 = 0 ∨ point.toNat = 1 ∨ 3 < mode.toNat ∨
        1 < cls.toNat →
      exec (.bindFunction tag code 1 place point mode param cls nominal) s =
        .next (s.answered ⟨tag, 9, .badValue, []⟩)) ∧
    (∀ m cl, MapMode.ofCode mode.toNat = some m → OutClass.ofCode cls.toNat = some cl → code.toNat < 128 →
      1 ≤ place.toNat → place.toNat ≤ 4 → point.toNat % 2 = 1 → point.toNat ≠ 1 →
      let k : PointKey := ⟨place.toNat, point.toNat⟩
      let n := min 4095 nominal.toNat
      let e : MapEntry := { code := code.toNat, target := .point k, mode := m, param := mapParam m param.toNat, owner := 0 }
      let known := ∃ o ∈ s.translator.map, o.code = e.code ∧ o.target = e.target
      let recorded := ∃ r ∈ s.translator.points, r.key = k
      let full := (¬ known ∧ 96 ≤ s.translator.map.length) ∨ (¬ recorded ∧ 96 ≤ s.translator.points.length)
      (s.enumerator.occupancy < place.toNat →
        exec (.bindFunction tag code 1 place point mode param cls nominal) s =
          .next (s.answered ⟨tag, 9, .notPresent, []⟩)) ∧
      (place.toNat ≤ s.enumerator.occupancy → full →
        exec (.bindFunction tag code 1 place point mode param cls nominal) s =
          .next (s.answered ⟨tag, 9, .tableFull, []⟩)) ∧
      (place.toNat ≤ s.enumerator.occupancy → ¬ full → s.tablesGood → s.feed.waiting = [] →
        ∃ t, exec (.bindFunction tag code 1 place point mode param cls nominal) s = .next t ∧
          s.repliesWith t ⟨tag, 9, .ok, twoBytes n ++ [byteOf e.param]⟩ ∧ s.keepsInputs t ∧ t.now = s.now ∧
          (∀ o, o ∈ t.translator.map ↔
            o = e ∨ (o ∈ s.translator.map ∧ ¬(o.code = e.code ∧ o.target = e.target))) ∧
          (∃ r ∈ t.translator.points, r.key = k ∧ r.cls = cl ∧ r.nominal = n ∧ r.faulted = false ∧
            r.retiring = false ∧ r.requested = t.greatestMapped k) ∧
          t.lamps.circuits = s.lamps.circuits ∧ t.lamps.roll = s.lamps.roll))

/-- R101, R102, R106, R151, R153, R171: UNBIND_FUNCTION removes the entry of its code and target, whoever owns it; a circuit is
derived from what is left and follows the handover of its requested state, a short that clears with its CIRCUIT notice. A
point's record that other entries target stays with the duty they give. One that has lost its last entry goes at once when it is
faulted, or when no write of it is granted and its accepted duty is absent or 0; with an accepted duty above 0 it stays, retiring
at duty 0, queued for a write of 0, which may be granted at the end of the event (log entry 4, the model's choice); with a write
granted, and so out of the Output Write Queue (R111), it stays until the outcome comes. -/
def Obligations.UnbindFunctionRemovesTheEntry : Prop :=
  ∀ (tag code kind place point : Byte) (s : State), s.hasRoom →
    (128 ≤ code.toNat ∨ readTarget kind.toNat place.toNat point.toNat = none →
      exec (.unbindFunction tag code kind place point) s = .next (s.answered ⟨tag, 10, .badValue, []⟩)) ∧
    (∀ target, code.toNat < 128 → readTarget kind.toNat place.toNat point.toNat = some target →
      let known := ∃ o ∈ s.translator.map, o.code = code.toNat ∧ o.target = target
      (s.targetAbsent target = true →
        exec (.unbindFunction tag code kind place point) s = .next (s.answered ⟨tag, 10, .notPresent, []⟩)) ∧
      (s.targetAbsent target = false → ¬ known →
        exec (.unbindFunction tag code kind place point) s = .next (s.answered ⟨tag, 10, .notFound, []⟩)) ∧
      (s.targetAbsent target = false → known → s.tablesGood → s.feed.waiting = [] → s.lamps.circuits.length = 10 →
        ∃ t, exec (.unbindFunction tag code kind place point) s = .next t ∧
          s.repliesWith t ⟨tag, 10, .ok, []⟩ ∧ s.keepsInputs t ∧ t.now = s.now ∧
          (∀ o, o ∈ t.translator.map ↔ o ∈ s.translator.map ∧ ¬(o.code = code.toNat ∧ o.target = target)) ∧
          (∀ c, target = .circuit c →
            (s.circuit c).followsHandover (t.circuit c) s.now (t.requestedState c) ∧
            t.cab = s.cab.afterRequest ((s.circuit c).clearNotices c (t.requestedState c)) ⟨tag, 10, .ok, []⟩) ∧
          (∀ c, 1 ≤ c → c ≤ 10 → target ≠ .circuit c → t.circuit c = s.circuit c) ∧
          (∀ k, target = .point k → ∀ r ∈ t.translator.points, r.key = k →
            r.requested = t.requestedDuty r ∧
            ((∀ o ∈ t.translator.map, o.target ≠ .point k) → r.retiring = true)) ∧
          (∀ k, target = .point k → ∀ r ∈ s.translator.points, r.key = k →
            let left := ∃ o ∈ t.translator.map, o.target = .point k
            let off : OutRec := { r with retiring := true, requested := 0, applied := 0 }
            (left → r.gone = false → ∃ q ∈ t.translator.points, q = { r with
              requested := t.requestedDuty r, applied := q.applied, write := q.write, inFlight := q.inFlight }) ∧
            (¬ left →
              (r.faulted = true ∨ (r.write ≠ .inFlight ∧ (r.accepted = none ∨ r.accepted = some 0)) →
                (∀ q ∈ t.translator.points, q.key ≠ k) ∧ k ∉ t.translator.queue) ∧
              (r.faulted = false → r.write = .inFlight → k ∉ s.translator.queue → off ∈ t.translator.points) ∧
              (∀ a, r.faulted = false → r.write ≠ .inFlight → r.accepted = some a → 1 ≤ a →
                ({ off with write := .queued } ∈ t.translator.points ∨
                  { off with write := .inFlight, inFlight := some 0 } ∈ t.translator.points) ∧
                (s.settled → s.mayGrant = false → r.write = .idle ∨ k ∈ s.translator.queue →
                  { off with write := .queued } ∈ t.translator.points ∧ k ∈ t.translator.queue))))))

/-- R116, R117, R118, R119, R172: BIND_REPORT and UNBIND_REPORT, their checks in order and the entry they make or remove; the
key of a bind does not join the initial-read set, and the key of an unbind leaves it. Nothing else changes. -/
def Obligations.ReportBindsByKey : Prop :=
  ∀ (tag pos point code filter : Byte) (threshold : Half) (s : State), s.hasRoom →
    let k : PointKey := ⟨pos.toNat, point.toNat⟩
    let badKey := pos.toNat = 0 ∨ 4 < pos.toNat ∨ point.toNat % 2 = 1 ∨ point.toNat = 2
    let known := ∃ o ∈ s.scanner.map, o.key = k
    (badKey ∨ 128 ≤ code.toNat ∨ 1 < filter.toNat →
      exec (.bindReport tag pos point code filter threshold) s = .next (s.answered ⟨tag, 11, .badValue, []⟩)) ∧
    (badKey → exec (.unbindReport tag pos point) s = .next (s.answered ⟨tag, 12, .badValue, []⟩)) ∧
    (¬ badKey → s.enumerator.occupancy < pos.toNat →
      (code.toNat < 128 → filter.toNat ≤ 1 →
        exec (.bindReport tag pos point code filter threshold) s = .next (s.answered ⟨tag, 11, .notPresent, []⟩)) ∧
      exec (.unbindReport tag pos point) s = .next (s.answered ⟨tag, 12, .notPresent, []⟩)) ∧
    (¬ badKey → pos.toNat ≤ s.enumerator.occupancy → s.tablesGood →
      (∀ f, Filter.ofCode filter.toNat = some f → code.toNat < 128 →
        let e : ReportEntry := { key := k, code := code.toNat, filter := f
                                 threshold := (if f = .delta then max 1 threshold.toNat else 0)
                                 last := none, owner := 0 }
        (¬ known → 64 ≤ s.scanner.map.length →
          exec (.bindReport tag pos point code filter threshold) s = .next (s.answered ⟨tag, 11, .tableFull, []⟩)) ∧
        (known ∨ s.scanner.map.length < 64 → ∃ map,
          exec (.bindReport tag pos point code filter threshold) s = .next (
            ({ s with scanner := { s.scanner with map := map } }).answered
              ⟨tag, 11, .ok, twoBytes e.threshold⟩) ∧
          ∀ o, o ∈ map ↔ o = e ∨ (o ∈ s.scanner.map ∧ o.key ≠ k))) ∧
      (¬ known → exec (.unbindReport tag pos point) s = .next (s.answered ⟨tag, 12, .notFound, []⟩)) ∧
      (known → exec (.unbindReport tag pos point) s = .next (
        ({ s with scanner := { s.scanner with
            map := s.scanner.map.filter (fun o => o.key != k)
            initialSet := s.scanner.initialSet.filter (fun i => !(i.key == k)) } }).answered ⟨tag, 12, .ok, []⟩)))

/-- R10, R173: ENUMERATE is refused with BAD_VALUE for a force above 1, with NOT_PRESENT while the connector is absent, with
WRONG_STATE while a run is in progress or held and force is 0; else a full enumeration starts: no position is occupied, every
record of a position that was is at its EMPTY values, and a break is requested. -/
def Obligations.EnumerateStartsAfresh : Prop :=
  ∀ (tag force : Byte) (s : State), s.hasRoom →
    let running := ∃ p, 1 ≤ p ∧ p ≤ 4 ∧ ((s.pcr p).state = .bringingUp ∨ (s.pcr p).state = .held)
    (1 < force.toNat → exec (.enumerate tag force) s = .next (s.answered ⟨tag, 13, .badValue, []⟩)) ∧
    (force.toNat ≤ 1 → s.coupling.presence = false →
      exec (.enumerate tag force) s = .next (s.answered ⟨tag, 13, .notPresent, []⟩)) ∧
    (force = 0 → s.coupling.presence = true → running →
      exec (.enumerate tag force) s = .next (s.answered ⟨tag, 13, .wrongState, []⟩)) ∧
    (force.toNat ≤ 1 → s.coupling.presence = true → ¬ running ∨ force = 1 →
      ∃ t, exec (.enumerate tag force) s = .next t ∧ s.repliesWith t ⟨tag, 13, .ok, []⟩ ∧ s.keepsInputs t ∧
        t.now = s.now ∧ t.enumerator.state = .breaking ∧
        (s.enumerator.state ≠ .breaking → t.enumerator.occupancy = 0 ∧ t.enumerator.breakRequested = true ∧
          t.enumerator.cursor = none ∧ t.enumerator.pendingChecks = [] ∧ t.enumerator.haltCause = none ∧
          t.enumerator.attempts = 0 ∧ t.link.slot = none ∧
          (t.link.breakRequested = true ∨ t.link.breakState = .low (s.now + 2000)) ∧
          ∀ p, 1 ≤ p → p ≤ 4 → p ≤ s.enumerator.occupancy → t.pcr p = Pcr.empty))

/-- R50, R66, R174: START by the state of the position, and by the slot it names or that matching gives.
R48, R50, R67, R71, R87: a START with a valid slot named, or with slot 255 and a slot that matching gives, releases what the
last run bound and begins the run at its profile's first step. Stated for a first step WAIT, which completes nothing yet, so
that all of the run's start shows; no FEED_REQUEST step waits. -/
def Obligations.StartBeginsARunOrIsRefused : Prop :=
  (∀ (tag pos slot : Byte) (s : State), s.hasRoom →
    let st := (s.pcr pos.toNat).state
    (pos.toNat = 0 ∨ 4 < pos.toNat → exec (.start tag pos slot) s = .next (s.answered ⟨tag, 14, .badValue, []⟩)) ∧
    (1 ≤ pos.toNat → pos.toNat ≤ 4 →
      (st = .empty → exec (.start tag pos slot) s = .next (s.answered ⟨tag, 14, .notPresent, []⟩)) ∧
      (st = .identifying ∨ st = .bringingUp ∨ st = .held →
        exec (.start tag pos slot) s = .next (s.answered ⟨tag, 14, .wrongState, []⟩)) ∧
      (st = .waiting ∨ st = .unprofiled ∨ st = .ready ∨ st = .degraded ∨ st = .failed →
        (24 ≤ slot.toNat → slot.toNat < 255 →
          exec (.start tag pos slot) s = .next (s.answered ⟨tag, 14, .badValue, []⟩)) ∧
        (slot.toNat < 24 → (s.profile slot.toNat).valid = false →
          exec (.start tag pos slot) s = .next (s.answered ⟨tag, 14, .notFound, []⟩)) ∧
        (slot = 255 → s.matchSlot (s.pcr pos.toNat).identity = none →
          exec (.start tag pos slot) s = .next (s.answered ⟨tag, 14, .notFound, []⟩))))) ∧
  (∀ (tag pos slot : Byte) (s : State) (n i d : Nat) (f : StepFlags), s.hasRoom → 1 ≤ pos.toNat → pos.toNat ≤ 4 →
    (let st := (s.pcr pos.toNat).state
     st = .waiting ∨ st = .unprofiled ∨ st = .ready ∨ st = .degraded ∨ st = .failed) →
    (slot.toNat = n ∧ n < 24 ∧ (s.profile n).valid = true) ∨
      (slot = 255 ∧ s.matchSlot (s.pcr pos.toNat).identity = some n) →
    (s.profile n).firstStep = i →
    s.stepAt i = .step f (.wait d) → s.feed.waiting = [] →
    ∃ t, exec (.start tag pos slot) s = .next t ∧ s.repliesWith t ⟨tag, 14, .ok, []⟩ ∧ s.keepsInputs t ∧ t.now = s.now ∧
      t.pcr pos.toNat = { s.pcr pos.toNat with
        state := .bringingUp, profileSlot := some n, stepIndex := some i, phase := .timer, executed := 1
        v := 0, x := 0, attempts := 0, busyRetries := 0, residual := 0, lastInitial := none, lastEnding := none
        sense := [], cause := none, degraded := false, holdPending := false
        waitTimer := some (s.now + d * 10000) } ∧
      t.translator.map = s.translator.map.filter (fun e => !(e.owner == pos.toNat)) ∧
      t.scanner.map = s.scanner.map.filter (fun e => e.owner != pos.toNat) ∧
      t.scanner.initialSet.map (·.key) =
        (s.scanner.initialSet.filter (fun k => !(k.key.pos == pos.toNat))).map (·.key) ∧
      t.lamps.roll = s.lamps.roll.filter (fun e => !(e.pos == pos.toNat)) ∧
      t.feed.requests = s.feed.requests.set pos.toNat 0)

/-- R65, R168: SET_PARAM of AUTO_START to 1, with the lock LOCKED, starts every WAITING position's run: none of them is
WAITING after it, and each has begun at least one step. -/
def Obligations.AutoStartStartsWaitingPositions : Prop :=
  ∀ (tag : Byte) (s : State), s.hasRoom → s.coupling.lock = true →
    ∃ t, exec (.setParam tag 1 1) s = .next t ∧ s.repliesWith t ⟨tag, 3, .ok, [1, 0]⟩ ∧
      ∀ p, 1 ≤ p → p ≤ 4 → (s.pcr p).state = .waiting → (t.pcr p).state ≠ .waiting ∧ 1 ≤ (t.pcr p).executed

/-- R90, R174: HOLD sets the hold-pending flag of a run in progress and acknowledges a held one; it is refused in every other
state.
R71, R92, R174: RESUME of a held run begins the step at its index anew, and it is counted; stated for a WAIT step, and for
an EMPTY descriptor, at which the run fails with BAD_STEP. In BRINGING_UP it clears a hold that is pending, and is refused
without one. -/
def Obligations.HoldAndResume : Prop :=
  (∀ (tag pos : Byte) (s : State), s.hasRoom →
    let st := (s.pcr pos.toNat).state
    (pos.toNat = 0 ∨ 4 < pos.toNat → exec (.hold tag pos) s = .next (s.answered ⟨tag, 15, .badValue, []⟩)) ∧
    (1 ≤ pos.toNat → pos.toNat ≤ 4 →
      (st = .bringingUp → exec (.hold tag pos) s = .next (
        ({ s with pcrs := s.pcrs.set pos.toNat { s.pcr pos.toNat with holdPending := true } }).answered
          ⟨tag, 15, .ok, []⟩)) ∧
      (st = .held → exec (.hold tag pos) s = .next (s.answered ⟨tag, 15, .ok, []⟩)) ∧
      (st = .empty → exec (.hold tag pos) s = .next (s.answered ⟨tag, 15, .notPresent, []⟩)) ∧
      (st = .identifying ∨ st = .waiting ∨ st = .unprofiled ∨ st = .ready ∨ st = .degraded ∨ st = .failed →
        exec (.hold tag pos) s = .next (s.answered ⟨tag, 15, .wrongState, []⟩)))) ∧
  (∀ (tag pos : Byte) (s : State), s.hasRoom →
    let p := pos.toNat
    let x := s.pcr p
    (p = 0 ∨ 4 < p → exec (.resume tag pos) s = .next (s.answered ⟨tag, 16, .badValue, []⟩)) ∧
    (1 ≤ p → p ≤ 4 →
      (x.state = .empty → exec (.resume tag pos) s = .next (s.answered ⟨tag, 16, .notPresent, []⟩)) ∧
      (x.state = .identifying ∨ x.state = .waiting ∨ x.state = .unprofiled ∨ x.state = .ready ∨ x.state = .degraded ∨
          x.state = .failed ∨ (x.state = .bringingUp ∧ x.holdPending = false) →
        exec (.resume tag pos) s = .next (s.answered ⟨tag, 16, .wrongState, []⟩)) ∧
      (x.state = .bringingUp → x.holdPending = true → ∃ t, exec (.resume tag pos) s = .next t ∧
        s.repliesWith t ⟨tag, 16, .ok, []⟩ ∧ s.keepsInputs t ∧
        (s.settled → t = ({ s with pcrs := s.pcrs.set p { x with holdPending := false } }).answered
          ⟨tag, 16, .ok, []⟩)) ∧
      (x.state = .held → ∃ t, exec (.resume tag pos) s = .next t ∧ s.repliesWith t ⟨tag, 16, .ok, []⟩ ∧
        s.keepsInputs t ∧ t.now = s.now ∧
        (∀ i f d, x.stepIndex = some i → x.executed < 256 → s.stepAt i = .step f (.wait d) →
          t.pcr p = { x with state := .bringingUp, phase := .timer, executed := x.executed + 1, attempts := 0
                             busyRetries := 0, waitTimer := some (s.now + d * 10000) }) ∧
        (∀ i, x.stepIndex = some i → x.executed < 256 → s.stepAt i = .empty →
          t.pcr p = { x with state := .failed, phase := .idle, executed := x.executed + 1, holdPending := false
                             cause := some .badStep }) ∧
        (256 ≤ x.executed →
          t.pcr p = { x with state := .failed, phase := .idle, holdPending := false, cause := some .stepLimit }))))

/-- R93, R163, R174: ABORT of a run in progress or held makes the position FAILED with cause ABORTED, cancels its timers, its
awaited transaction and its waiting feed step, and takes it from every probe; it is refused in every other state. -/
def Obligations.AbortFailsTheRun : Prop :=
  ∀ (tag pos : Byte) (s : State), s.hasRoom →
    let p := pos.toNat
    let x := s.pcr p
    (p = 0 ∨ 4 < p → exec (.abort tag pos) s = .next (s.answered ⟨tag, 17, .badValue, []⟩)) ∧
    (1 ≤ p → p ≤ 4 →
      (x.state = .empty → exec (.abort tag pos) s = .next (s.answered ⟨tag, 17, .notPresent, []⟩)) ∧
      (x.state = .identifying ∨ x.state = .waiting ∨ x.state = .unprofiled ∨ x.state = .ready ∨ x.state = .degraded ∨
          x.state = .failed → exec (.abort tag pos) s = .next (s.answered ⟨tag, 17, .wrongState, []⟩)) ∧
      (x.state = .bringingUp ∨ x.state = .held → ∃ t, exec (.abort tag pos) s = .next t ∧
        s.repliesWith t ⟨tag, 17, .ok, []⟩ ∧ s.keepsInputs t ∧ t.now = s.now ∧
        t.pcr p = { x with state := .failed, cause := some .aborted, phase := .idle, waitTimer := none
                           busyTimer := none, awaited := none, holdPending := false, senseInProgress := false } ∧
        p ∉ t.feed.waiting ∧
        (s.lamps.circuits.length = 10 → ∀ c, 1 ≤ c → c ≤ 10 →
          (∀ h, (t.circuit c).holder = some h → h.pos ≠ p) ∧ ∀ w ∈ (t.circuit c).waiters, w.pos ≠ p)))

/-- R95, R174: WRITE_CONTEXT in HELD writes the step index when it lies in the profile's range, V, or X clamped to -128..127,
and nothing else; it is refused in every other state. -/
def Obligations.ContextWriteInHeld : Prop :=
  ∀ (tag pos field : Byte) (value : Half) (s : State), s.hasRoom →
    let p := pos.toNat
    let x := s.pcr p
    let pr := s.runProfile p
    (p = 0 ∨ 4 < p → exec (.writeContext tag pos field value) s = .next (s.answered ⟨tag, 19, .badValue, []⟩)) ∧
    (1 ≤ p → p ≤ 4 →
      (x.state = .empty →
        exec (.writeContext tag pos field value) s = .next (s.answered ⟨tag, 19, .notPresent, []⟩)) ∧
      (x.state ≠ .empty → x.state ≠ .held →
        exec (.writeContext tag pos field value) s = .next (s.answered ⟨tag, 19, .wrongState, []⟩)) ∧
      (x.state = .held →
        (field = 1 → pr.firstStep ≤ value.toNat → value.toNat < pr.firstStep + pr.stepCount →
          exec (.writeContext tag pos field value) s = .next (
            ({ s with pcrs := s.pcrs.set p { x with stepIndex := some value.toNat } }).answered
              ⟨tag, 19, .ok, twoBytes value.toNat⟩)) ∧
        (field = 1 → value.toNat < pr.firstStep ∨ pr.firstStep + pr.stepCount ≤ value.toNat →
          exec (.writeContext tag pos field value) s = .next (s.answered ⟨tag, 19, .badValue, []⟩)) ∧
        (field = 2 → exec (.writeContext tag pos field value) s = .next (
          ({ s with pcrs := s.pcrs.set p { x with v := value.toNat } }).answered
            ⟨tag, 19, .ok, twoBytes value.toNat⟩)) ∧
        (field = 3 → exec (.writeContext tag pos field value) s = .next (
          ({ s with pcrs := s.pcrs.set p { x with x := max (-128) (min 127 value.toInt) } }).answered
            ⟨tag, 19, .ok, signedTwoBytes (max (-128) (min 127 value.toInt))⟩)) ∧
        (field = 0 ∨ 3 < field.toNat →
          exec (.writeContext tag pos field value) s = .next (s.answered ⟨tag, 19, .badValue, []⟩))))

/-- R7, R15, R38, R39, R175: RESET_LINK frees the line, clears the two link flags, and counts no miss; a transaction of the
enumerator's own that it cuts off halts the enumerator with LINK_RESET.
R19, R38, R84: what RESET_LINK takes from the holding slot comes back ungranted. The enumerator's current transaction stands
at level 1 again with state and attempts unchanged, and where no break is asked for or running it is granted again at the end
of the same event (log entries 4 and 25). The transaction that a step awaits leaves its request standing at level 4, its
counts unchanged, unless it is granted again in the event. What RESET_LINK's emptying of the slot does by itself is given
whole for both; the scanner's and the translator's returns have their own statements.
The model's choice: a transaction that the enumerator has abandoned (log entry 36), or that no step awaits any more (log entry
31), is dropped with the slot. -/
def Obligations.ResetLinkFreesTheLine : Prop :=
  ∀ (tag : Byte) (s : State), s.hasRoom → ∃ t, exec (.resetLink tag) s = .next t ∧
    s.repliesWith t ⟨tag, 20, .ok, []⟩ ∧ s.keepsInputs t ∧ t.now = s.now ∧
    t.link.lineCheckSeen = false ∧ t.link.stallSeen = false ∧
    t.enumerator.occupancy = s.enumerator.occupancy ∧ t.enumerator.miss = s.enumerator.miss ∧
    (∀ l, s.link.line = some l → t.link.line = none ∧ t.link.rate = s.link.rate ∧
      t.link.gap = some (s.now + 4 * bitTime s.link.rate)) ∧
    (∀ l, s.link.line = some l → l.txn.stale = false → l.txn.requester = .enumerator →
      s.enumerator.request = .granted l.txn.serial →
      s.enumerator.state = .assigning ∨ s.enumerator.state = .checkingDownstream ∨ s.enumerator.state = .closing ∨
        s.enumerator.state = .identifyingNode →
      t.enumerator.state = .halted ∧ t.enumerator.haltCause = some .linkReset) ∧
    (∀ x, s.link.slot = some x →
      let emptied : State := { s with link := { s.link with slot := none } }
      (x.requester = .enumerator →
        (s.enumerator.request = .granted x.serial → s.emptySlot =
          { emptied with enumerator := { s.enumerator with request := .awaiting } }) ∧
        (s.enumerator.request ≠ .granted x.serial → s.emptySlot = emptied)) ∧
      (x.requester = .engine →
        ((s.pcr x.address).awaited = some x.serial → s.emptySlot = { emptied with
          pcrs := s.pcrs.set x.address { s.pcr x.address with awaited := none, phase := .awaitGrant } }) ∧
        ((s.pcr x.address).awaited ≠ some x.serial → s.emptySlot = emptied)) ∧
      ((∀ l, s.link.line = some l → l.txn.serial ≠ x.serial) →
        (x.requester = .enumerator → s.enumerator.request = .granted x.serial → s.enumerator.state ≠ .done →
          t.enumerator.state = s.enumerator.state ∧ t.enumerator.attempts = s.enumerator.attempts ∧
          t.enumerator.cursor = s.enumerator.cursor ∧
          (s.link.breakRequested = true ∨ s.link.breakState ≠ .none → t.enumerator.request = .awaiting) ∧
          (s.link.breakRequested = false → s.link.breakState = .none → s.link.line.isSome ∨ s.link.gap.isSome →
            t.enumerator.request = .granted s.link.nextSerial ∧
            t.link.slot = some (s.txnFor .enumerator s.link.nextSerial))) ∧
        (x.requester = .engine → 1 ≤ x.address → x.address ≤ 4 → (s.pcr x.address).awaited = some x.serial →
          (s.pcr x.address).phase = .inLink →
          (s.enumerator.state = .identifyingNode → s.enumerator.cursor ≠ some x.address) →
          t.pcr x.address = { s.pcr x.address with awaited := none, phase := .awaitGrant } ∨
          t.pcr x.address = { s.pcr x.address with awaited := some s.link.nextSerial, phase := .inLink })))

/-- R4, R19, R39, R42, R61, R97, R99, R103, R116, R120, R133, R150, R154, R176, R183: RESTART keeps the stores, the
parameters and the coupling monitor and the wired-target entries, and clears every other block; with the connector present a
full enumeration starts. Its reply is the only one in the Reply Queue. That the clock and the
sensed currents are no state of a block, and stay, is the model's choice (log entry 21). -/
def Obligations.RestartKeepsStoresAndClearsBlocks : Prop :=
  ∀ (tag : Byte) (s : State), s.hasRoom → ∃ t, exec (.restart tag) s = .next t ∧
    s.keepsInputs t ∧ t.now = s.now ∧ (∀ p, t.pcr p = Pcr.empty) ∧
    t.translator.values = List.replicate 128 0 ∧ t.translator.points = [] ∧ t.translator.queue = [] ∧
    (∀ e, e ∈ t.translator.map ↔ e ∈ s.translator.map ∧ ∃ c, e.target = .circuit c) ∧
    t.scanner = Scanner.start s.now s.params.scanPeriod ∧ t.arbiter = { pointer := 1, scanOverdue := false } ∧
    t.feed = Feed.start s.feed.zone ∧ t.lamps.roll = [] ∧ t.lamps.checkTimer = s.now + 250000 ∧
    (∀ c, 1 ≤ c → c ≤ 10 → (t.circuit c).requested = t.requestedState c ∧
      (t.circuit c).output = t.requestedState c ∧ (t.circuit c).lamp = .unchecked ∧ (t.circuit c).deviation = 0 ∧
      (t.circuit c).holder = none ∧ (t.circuit c).waiters = [] ∧ (t.circuit c).pulse = none) ∧
    t.enumerator.state = (if s.coupling.presence then .breaking else .idle) ∧ t.enumerator.occupancy = 0 ∧
    t.link.line = none ∧ t.link.slot = none ∧ t.link.lineCheckSeen = false ∧ t.link.stallSeen = false ∧
    t.link.rate = s.link.rate ∧
    (s.coupling.presence = false → t.link.breakRequested = false ∧ t.link.breakState = s.link.breakState) ∧
    t.cab.gathered = [] ∧ t.cab.notices = [] ∧ t.cab.reports = [] ∧ t.cab.requestsDropped = false ∧
    t.cab.noticesLost = false ∧ t.cab.reportsLost = false ∧ t.cab.frameError = false ∧
    (s.cab.sending = none → t.cab.sending = some (.reply ⟨tag, 21, .ok, []⟩) ∧ t.cab.replies = []) ∧
    (∀ f, s.cab.sending = some f → t.cab.sending = some f ∧ t.cab.replies = [⟨tag, 21, .ok, []⟩])

/-! ### Chain link -/

/-- R20, R28, R29, R30, R187: what a node word does that leaves its transaction going on. A good echo of the address moves it
to COMMAND; an initial status without BUSY, UNIT_CHECK and POINT_INVALID moves it to DATA, or to ENDING STATUS for a POLL;
a data byte is kept, and the last one the node may send moves it to ENDING STATUS. In each case the next answer window
begins.
R30, R31, R41: when the part has sent its last data byte the transaction stands in ENDING STATUS with an answer window of 24
bit times, and a request that stands may be granted into an empty slot, at the end of the event (log entry 4).
R20, R28, R29, R30, R187: the words the part sends in SELECT, COMMAND and DATA. Each has the parity that makes its nine bits
odd; the select word alone is marked and carries the address; the command is kind, count less 1 and point for READ and WRITE,
the kind alone for the others; the data words of a WRITE or ASSIGN are the bytes fixed at its grant.
The model's choices: a node word that comes in SELECT is taken as the echo, and one in COMMAND as the initial status (log
entry 13); TRANSACTION_ENTERS_ENDING_STATUS of a transaction already in ENDING STATUS changes nothing, and of one whose data
phase is not over it is the fault dataNotOver (log entry 3). -/
def Obligations.NodeWordsMoveTheTransaction : Prop :=
  (∀ (s : State) (l : OnLine) (w : NodeWord), s.link.line = some l → parityGood w = true → w.marked = false →
    (l.phase = .select ∨ l.phase = .echo → w.data.toNat = l.txn.address → s.settled →
      exec (.nodeWordReceived w) s = .next { s with link := { s.link with line := some { l with
        phase := .command
        windowEnd := s.now + ((if l.txn.kind = .read ∨ l.txn.kind = .write then 2 else 1) * 9 + 24) *
          bitTime s.link.rate } } }) ∧
    (l.phase = .command ∨ l.phase = .initialStatus →
      bit w.data 0 = false → bit w.data 1 = false → bit w.data 2 = false →
      ∃ t l', exec (.nodeWordReceived w) s = .next t ∧ t.link.line = some l' ∧ s.keepsInputs t ∧ t.now = s.now ∧
        l'.phase = (if l.txn.kind = .poll then .endingStatus else .data) ∧
        l'.initial = some ⟨false, false, false, bit w.data 3, bit w.data 4⟩ ∧
        l'.attention = (l.attention || bit w.data 3) ∧ l'.downstreamChange = (l.downstreamChange || bit w.data 4) ∧
        l'.txn = l.txn ∧ l'.received = l.received ∧ l'.startedAt = l.startedAt ∧ l'.windowEnd = s.now +
          (if l.txn.kind = .write ∨ l.txn.kind = .assign then l.txn.send.length * 9 else 24) * bitTime s.link.rate) ∧
    (l.phase = .data → l.txn.kind = .read ∨ l.txn.kind = .sense →
      ∃ t, exec (.nodeWordReceived w) s = .next t ∧ s.keepsInputs t ∧ t.now = s.now ∧
        t.link.line = some { l with
          received := l.received ++ [w.data], windowEnd := s.now + 24 * bitTime s.link.rate
          phase := (if (if l.txn.kind = .read then l.txn.count else 4) ≤ l.received.length + 1
            then .endingStatus else .data) })) ∧
  (∀ (s : State) (l : OnLine), s.link.line = some l →
    (l.phase = .data → l.txn.kind = .write ∨ l.txn.kind = .assign →
      ∃ t, exec .transactionEntersEndingStatus s = .next t ∧ s.keepsInputs t ∧ t.now = max s.now l.windowEnd ∧
        t.link.line = some { l with
          phase := .endingStatus, windowEnd := max s.now l.windowEnd + 24 * bitTime s.link.rate } ∧
        (s.link.slot = none → s.link.breakRequested = false → s.link.breakState = .none →
          s.enumerator.request = .awaiting → s.enumerator.state = .closing →
          t.link.slot = some { serial := s.link.nextSerial, requester := .enumerator, address := s.enumerator.at
                               kind := .write, point := 1, count := 1, send := [1], stale := false })) ∧
    (l.phase = .endingStatus → ∃ t, exec .transactionEntersEndingStatus s = .next t ∧ s.keepsInputs t ∧ (s.settled → t = s)) ∧
    (l.phase ≠ .endingStatus → ¬(l.phase = .data ∧ (l.txn.kind = .write ∨ l.txn.kind = .assign)) →
      exec .transactionEntersEndingStatus s = .fault .dataNotOver)) ∧
  (∀ l : OnLine,
    (∀ w ∈ l.partWords, parityGood w = true ∧ (w.marked = true ↔ l.phase = .select)) ∧
    l.partWords.map (·.data) =
      (if l.phase = .select then [BitVec.ofNat 8 l.txn.address]
       else if l.phase = .command then
        (if l.txn.kind = .read then [BitVec.ofNat 8 (1 + 16 * (l.txn.count - 1)), BitVec.ofNat 8 l.txn.point]
         else if l.txn.kind = .write then [BitVec.ofNat 8 (2 + 16 * (l.txn.count - 1)), BitVec.ofNat 8 l.txn.point]
         else if l.txn.kind = .sense then [3]
         else if l.txn.kind = .poll then [4]
         else [5])
       else if l.phase = .data ∧ (l.txn.kind = .write ∨ l.txn.kind = .assign) then l.txn.send
       else []))

/-- R28 to R31, R33: the outcome of a transaction that a node word ends, from the phase in which the word comes.
R34, R35, R39: the word that ends a transaction takes it off the line, the quiet gap of four bit times begins, and a
LINK_CHECK sets its flag. The end is taken the same as a node word and as TRANSACTION_END.
The model's choice (log entry 13): a word that comes in SELECT, in COMMAND or in the part's own DATA phase is taken as the
answer that is due next, and the clock goes to the end of the data the part was sending. -/
def Obligations.EndingWordsFormTheOutcome : Prop :=
  (∀ (l : OnLine) (w : NodeWord),
    ((l.phase = .select ∨ l.phase = .echo) →
      (parityGood w = false ∨ w.marked = true ∨ w.data.toNat ≠ l.txn.address → l.word w = .ends l.sent .linkCheck)) ∧
    ((l.phase = .command ∨ l.phase = .initialStatus) →
      (parityGood w = false ∨ w.marked = true → l.word w = .ends l.sent .linkCheck) ∧
      (parityGood w = true → w.marked = false → bit w.data 0 = true ∨ bit w.data 1 = true ∨ bit w.data 2 = true →
        ∃ l', l.word w = .ends l' (.nodeStatus (InitialStatus.ofByte w.data)) ∧
          l'.initial = some (InitialStatus.ofByte w.data))) ∧
    ((l.phase = .data ∧ (l.txn.kind = .read ∨ l.txn.kind = .sense)) ∨ l.phase = .endingStatus →
      (parityGood w = false → ∃ l', l.word w = .ends l' .linkCheck) ∧
      (l.phase = .endingStatus → w.marked = false → ∃ l', l.word w = .ends l' .linkCheck) ∧
      (parityGood w = true → w.marked = true →
        (EndingStatus.ofByte w.data = none → ∃ l', l.word w = .ends l' .linkCheck) ∧
        (∀ st, EndingStatus.ofByte w.data = some st →
          (st.completion = .unitCheck → ∃ l', l.word w = .ends l' (.nodeStatus ⟨false, true, false, false, false⟩)) ∧
          (st.completion ≠ .unitCheck →
            (l.txn.kind = .read → ∃ l', l.word w = .ends l' (
              if l.txn.count - l.received.length = 0 then .accepted l.received
              else .length (l.txn.count - l.received.length) l.received)) ∧
            (l.txn.kind = .sense ∨ l.txn.kind = .poll → ∃ l', l.word w = .ends l' (.accepted l.received)) ∧
            (l.txn.kind = .write ∨ l.txn.kind = .assign → st.completion = .complete →
              ∃ l', l.word w = .ends l' (.accepted l.received)) ∧
            (l.txn.kind = .write → st.completion = .short → 0 < l.txn.count →
              ∃ l', l.word w = .ends l' (.length l.txn.count l.received)) ∧
            (l.txn.kind = .assign → st.completion = .short →
              ∃ l', l.word w = .ends l' (.length 1 l.received))))))) ∧
  (∀ (s : State) (l l' : OnLine) (w : NodeWord) (o : TxnOutcome), s.link.line = some l → l.word w = .ends l' o →
    let n := if l.phase = .data ∧ (l.txn.kind = .write ∨ l.txn.kind = .assign) then max s.now l.windowEnd else s.now
    ∃ t, exec (.transactionEnd w) s = .next t ∧ exec (.nodeWordReceived w) s = .next t ∧ s.keepsInputs t ∧
      t.now = n ∧ t.link.line = none ∧ t.link.gap = some (n + 4 * bitTime s.link.rate) ∧ t.link.rate = s.link.rate ∧
      (t.link.lineCheckSeen = true ↔ s.link.lineCheckSeen = true ∨ o = .linkCheck) ∧
      (t.link.stallSeen = true ↔ s.link.stallSeen = true ∨ o = .timeout))

/-- R7, R8, R28 to R33: silence ends a transaction with NO_NODE before its echo and with TIMEOUT after it, and so does the 20 ms
limit with TIMEOUT; the line is freed and a TIMEOUT sets its flag. The miss count of an occupied addressed position rises, and
at three the position is lost with every position behind it, whatever the phase, the part's own DATA phase too. That a
window's end in SELECT is taken in ECHO, in COMMAND in INITIAL STATUS, and in the part's own DATA phase at the end of the
answer window behind it, is the model's choice (log entry 13).
R9, R34, R70, R108, R130, R134, R155, R163: what a detach takes with it. Of the positions detached no position record, miss count,
pending check, Function Map entry, output point record, write, Report Map entry, initial-read key, poll, attention, scanner's
request, Load Roll entry, probe, waiting step or feed request is left, and their granted transactions are stale. Of the other
positions these stay: position record, miss count, pending check, feed request, Function Map entries, output point records, but
for the applied duty and the membership of the write queue that the feed manager's pass gives them, Report Map entries,
initial-read keys, the scanner's polls, attention and request, Load Roll entries, and probes held, with their waiters. -/
def Obligations.SilenceCountsAMiss : Prop :=
  (∀ (s : State) (j : Nat) (cause : Cause), 1 ≤ j → j ≤ s.enumerator.occupancy → s.enumerator.occupancy ≤ 4 →
    let k := s.enumerator.occupancy
    let t := s.detach j cause
    let gone := fun p => decide (j ≤ p ∧ p ≤ k)
    t.enumerator.occupancy = j - 1 ∧
    (∀ q, q ∈ t.enumerator.pendingChecks ↔ q ∈ s.enumerator.pendingChecks ∧ gone q = false) ∧
    (∀ p, 1 ≤ p → p ≤ 4 →
      (gone p = true → t.pcr p = Pcr.empty ∧ t.enumerator.miss.get p = 0 ∧ t.feed.requests.get p = 0 ∧
        .other (.position p .empty (some cause)) ∈ t.ev.notices) ∧
      (gone p = false → t.pcr p = s.pcr p ∧ t.enumerator.miss.get p = s.enumerator.miss.get p ∧
        t.feed.requests.get p = s.feed.requests.get p)) ∧
    (∀ p ∈ t.feed.waiting, p ∈ s.feed.waiting ∧ gone p = false) ∧
    t.translator.values = s.translator.values ∧
    (∀ e, e ∈ t.translator.map ↔ e ∈ s.translator.map ∧ e.target.pointOf gone = false) ∧
    (∀ r ∈ t.translator.points, gone r.key.pos = false ∧ ∃ o ∈ s.translator.points,
      r = { o with applied := r.applied, write := r.write }) ∧
    (∀ o ∈ s.translator.points, gone o.key.pos = false → o.gone = false → ∃ r ∈ t.translator.points,
      r = { o with applied := r.applied, write := r.write } ∧ (r.write = .inFlight ↔ o.write = .inFlight)) ∧
    (∀ q ∈ t.translator.queue, gone q.pos = false) ∧
    t.scanner.map = s.scanner.map.filter (fun e => !gone e.key.pos) ∧
    t.scanner.initialSet = s.scanner.initialSet.filter (fun i => !gone i.key.pos) ∧
    (∀ p ∈ t.scanner.pollList ++ t.scanner.attention, gone p = false) ∧
    (∀ w, t.scanner.request = some w → gone w.position = false) ∧
    (∀ w, s.scanner.request = some w → gone w.position = false → t.scanner.request = some w) ∧
    (∀ p ∈ s.scanner.pollList, gone p = false → p ∈ t.scanner.pollList ∨ t.scanner.request = some (.poll p)) ∧
    (∀ p ∈ s.scanner.attention, gone p = false → s.scannedAt p = true →
      p ∈ t.scanner.attention ∨ t.scanner.request = some (.changeList p)) ∧
    t.scanner.outstanding = s.scanner.outstanding ∧
    t.lamps.roll = s.lamps.roll.filter (fun e => !gone e.pos) ∧
    (s.lamps.circuits.length = 10 → ∀ c, 1 ≤ c → c ≤ 10 →
      (∀ h, (t.circuit c).holder = some h → gone h.pos = false) ∧ (∀ w ∈ (t.circuit c).waiters, gone w.pos = false) ∧
      (∀ h, (s.circuit c).holder = some h → gone h.pos = false →
        (t.circuit c).holder = some h ∧ (t.circuit c).waiters = (s.circuit c).waiters.filter (fun w => !gone w.pos) ∧
        (t.circuit c).pulse = (s.circuit c).pulse ∧ (t.circuit c).output = (s.circuit c).output)) ∧
    (∀ x, t.link.slot = some x → gone x.address = true → x.stale = true) ∧
    (∀ l, t.link.line = some l → gone l.txn.address = true → l.txn.stale = true)) ∧
  ∀ (s : State) (l : OnLine), s.link.line = some l →
    let noNode := l.phase = .select ∨ l.phase = .echo
    let sending := l.phase = .data ∧ (l.txn.kind = .write ∨ l.txn.kind = .assign)
    (¬ sending →
      ∃ t, exec .answerWindowExpiry s = .next t ∧ s.keepsInputs t ∧ t.now = max s.now l.windowEnd ∧
        t.link.line = none ∧ t.link.gap = some (max s.now l.windowEnd + 4 * bitTime s.link.rate) ∧
        (t.link.stallSeen = true ↔ s.link.stallSeen = true ∨ ¬ noNode)) ∧
    (sending →
      let n := max s.now l.windowEnd + 24 * bitTime s.link.rate
      ∃ t, exec .answerWindowExpiry s = .next t ∧ s.keepsInputs t ∧ t.now = n ∧ t.link.line = none ∧
        t.link.gap = some (n + 4 * bitTime s.link.rate) ∧ t.link.stallSeen = true) ∧
    (∃ t, exec .transactionLimitExpiry s = .next t ∧ s.keepsInputs t ∧ t.now = max s.now (l.startedAt + 20000) ∧
      t.link.line = none ∧ t.link.gap = some (max s.now (l.startedAt + 20000) + 4 * bitTime s.link.rate) ∧
      t.link.stallSeen = true) ∧
    (∀ t, exec .answerWindowExpiry s = .next t ∨ exec .transactionLimitExpiry s = .next t → l.txn.stale = false →
      1 ≤ l.txn.address → l.txn.address ≤ s.enumerator.occupancy → s.enumerator.occupancy ≤ 4 →
      (s.enumerator.miss.get l.txn.address + 1 < 3 →
        t.enumerator.miss.get l.txn.address = s.enumerator.miss.get l.txn.address + 1 ∧
        t.enumerator.occupancy = s.enumerator.occupancy) ∧
      (3 ≤ s.enumerator.miss.get l.txn.address + 1 → t.enumerator.occupancy = l.txn.address - 1 ∧
        ∀ p, l.txn.address ≤ p → p ≤ s.enumerator.occupancy → t.pcr p = Pcr.empty))

/-- R21, R35, R36: at the end of the quiet gap a requested break begins; else the transaction in the slot goes on the line with
its select word, at the rate of LINK_RATE; else the line is idle.
R11, R36, R40: the LOW stage is followed by 10 ms of RECOVERY. At the end of the recovery a break requested meanwhile
begins; else an enumerator in BREAKING goes to ASSIGNING and offers address 1, granted at the end of the same event (log
entry 4). The model's choice (log entry 16): in IDLE, where R37 has the enumerator take no action, it stays IDLE and its
break-requested mark is cleared. -/
def Obligations.GapsAndBreaksReleaseTheLine : Prop :=
  (∀ (s : State) (e : Nat), s.link.gap = some e →
    let n := max s.now e
    (∃ t, exec .quietGapExpiry s = .next t ∧ s.keepsInputs t ∧ t.now = n ∧ t.link.gap = none) ∧
    (s.settled →
    (s.link.line ≠ none ∨ s.link.breakState ≠ .none ∨ (s.link.breakRequested = false ∧ s.link.slot = none) →
      exec .quietGapExpiry s = .next { s with now := n, link := { s.link with gap := none } }) ∧
    (s.link.line = none → s.link.breakState = .none → s.link.breakRequested = true →
      exec .quietGapExpiry s = .next { s with
        now := n, link := { s.link with gap := none, breakRequested := false, breakState := .low (n + 2000) } }) ∧
    (∀ x, s.link.line = none → s.link.breakState = .none → s.link.breakRequested = false → s.link.slot = some x →
      exec .quietGapExpiry s = .next { s with
        now := n
        link := { s.link with
          gap := none, slot := none, rate := s.params.linkRate
          line := some { txn := x, phase := .select, received := [], initial := none, ending := none
                         attention := false, downstreamChange := false, startedAt := n
                         windowEnd := n + 34 * bitTime s.params.linkRate } } }))) ∧
  (∀ (s : State) (e : Nat),
    (s.link.breakState = .low e → ∃ t, exec .breakLowExpiry s = .next t ∧ s.keepsInputs t ∧
      t.link.breakState = .recovery (max s.now e + 10000) ∧
      (s.settled → t = { s with
        now := max s.now e, link := { s.link with breakState := .recovery (max s.now e + 10000) } })) ∧
    (s.link.breakState = .recovery e →
      (∃ t, exec .breakRecoveryEnd s = .next t ∧ s.keepsInputs t ∧ t.now = max s.now e) ∧
      (s.link.breakRequested = true → s.link.line = none → s.link.gap = none → s.settled →
        exec .breakRecoveryEnd s = .next { s with
          now := max s.now e
          link := { s.link with breakRequested := false, breakState := .low (max s.now e + 2000) } }) ∧
      (s.link.breakRequested = false → s.enumerator.state = .breaking → s.link.line = none → s.link.gap = none →
        s.link.slot = none → ∃ t, exec .breakRecoveryEnd s = .next t ∧ s.keepsInputs t ∧ t.now = max s.now e ∧
          t.enumerator.state = .assigning ∧ t.enumerator.cursor = some 1 ∧ t.enumerator.breakRequested = false ∧
          t.enumerator.request = .granted s.link.nextSerial ∧ t.link.breakState = .none ∧ t.link.slot = none ∧
          ∃ l, t.link.line = some l ∧ l.phase = .select ∧
            l.txn = { serial := s.link.nextSerial, requester := .enumerator, address := 0, kind := .assign, point := 0
                      count := 1, send := [1], stale := false }) ∧
      (s.link.breakRequested = false → s.enumerator.state = .idle → ∃ t, exec .breakRecoveryEnd s = .next t ∧
        s.keepsInputs t ∧ t.link.breakState = .none ∧ t.enumerator.state = .idle ∧
        t.enumerator.breakRequested = false)))

/-- R40, R41, R42: a grant goes to the standing request of the highest level that has one; at level 4 the positions are
considered from the pointer on, and the pointer moves behind the one granted and at no other grant.
R40, R43, R110: who stands at each level. Level 1 is the enumerator's request that awaits its grant, 2 and 5 the first record
of class SAFETY and COMFORT in the Output Write Queue, which is one list of both classes in the order of joining (log entry
24), 3 the scanner's request in an overdue round and 6 in one that is not, 4 a step that awaits its grant. -/
def Obligations.HighestLevelIsGranted : Prop :=
  ∀ (s : State), s.mayGrant = true →
    (∀ (n : Nat) (g : Standing), 1 ≤ n → n ≤ 6 → (∀ m, 1 ≤ m → m < n → s.standing m = none) → s.standing n = some g →
      s.arbitrate.link.slot = some (s.txnFor g s.link.nextSerial) ∧
      s.arbitrate.link.nextSerial = s.link.nextSerial + 1 ∧
      (∀ p, g = .step p → s.arbitrate.arbiter.pointer = (if p = 4 then 1 else p + 1)) ∧
      ((∀ p, g ≠ .step p) → s.arbitrate.arbiter.pointer = s.arbiter.pointer)) ∧
    (∀ p, 1 ≤ s.arbiter.pointer → s.arbiter.pointer ≤ 4 → s.standing 4 = some (.step p) →
      (s.pcr p).phase = .awaitGrant ∧ 1 ≤ p ∧ p ≤ 4 ∧
      ∀ q, 1 ≤ q → q ≤ 4 → (s.pcr q).phase = .awaitGrant →
        (p + 4 - s.arbiter.pointer) % 4 ≤ (q + 4 - s.arbiter.pointer) % 4) ∧
    s.standing 1 = (if s.enumerator.request = .awaiting then some .enumerator else none) ∧
    s.standing 3 = (if s.arbiter.scanOverdue then s.scanner.request.map .scan else none) ∧
    s.standing 6 = (if s.arbiter.scanOverdue then none else s.scanner.request.map .scan) ∧
    (1 ≤ s.arbiter.pointer → s.arbiter.pointer ≤ 4 →
      (s.standing 4 = none ↔ ∀ p, 1 ≤ p → p ≤ 4 → (s.pcr p).phase ≠ .awaitGrant)) ∧
    (ordered OutRec.before s.translator.points →
      ∀ (n : Nat) (cls : OutClass), (n = 2 ∧ cls = .safety) ∨ (n = 5 ∧ cls = .comfort) →
        ((∀ r ∈ s.translator.points, r.key ∈ s.translator.queue → r.cls ≠ cls) → s.standing n = none) ∧
        (∀ pre post r, s.translator.queue = pre ++ r.key :: post → r ∈ s.translator.points → r.cls = cls →
          (∀ x ∈ s.translator.points, x.key ∈ pre → x.cls ≠ cls) → s.standing n = some (.write r)))

/-! ### Waits, retries, scan period -/

/-- R14, R15, R79: the pass-through wait is followed by ASSIGNING of the next address with attempts 0; the busy wait and the
engine's BUSY retry timer request the same transaction again. With no grant possible nothing else changes. -/
def Obligations.WaitsEndInNewRequests : Prop :=
  ∀ (s : State) (e : Nat),
    (s.enumerator.passWait = some e → ∃ t, exec .passThroughWaitExpiry s = .next t ∧ s.keepsInputs t ∧
      t.now = max s.now e ∧ t.enumerator.state = .assigning ∧ t.enumerator.cursor = some (s.enumerator.at + 1) ∧
      t.enumerator.attempts = 0 ∧ t.enumerator.passWait = none ∧ t.enumerator.request ≠ .none ∧
      (s.settled → s.mayGrant = false → t = { s with
        now := max s.now e
        enumerator := { s.enumerator with
          passWait := none, cursor := some (s.enumerator.at + 1), state := .assigning, request := .awaiting
          attempts := 0 } })) ∧
    (s.enumerator.busyWait = some e → ∃ t, exec .busyWaitExpiry s = .next t ∧ s.keepsInputs t ∧
      t.now = max s.now e ∧ t.enumerator.busyWait = none ∧
      (s.enumerator.state ≠ .done → t.enumerator.state = s.enumerator.state ∧ t.enumerator.request ≠ .none) ∧
      (s.settled → s.mayGrant = false → t = { s with
        now := max s.now e, enumerator := { s.enumerator with busyWait := none, request := .awaiting } })) ∧
    (∀ p, 1 ≤ p → p ≤ 4 → (s.pcr p).busyTimer = some e → ∃ t, exec (.busyRetryTimerExpiry p) s = .next t ∧
      s.keepsInputs t ∧ t.now = max s.now e ∧ (t.pcr p).busyTimer = none ∧
      ((t.pcr p).phase = .awaitGrant ∨ (t.pcr p).phase = .inLink) ∧ (t.pcr p).busyRetries = (s.pcr p).busyRetries ∧
      (s.settled → s.mayGrant = false → t = { s with
        now := max s.now e, pcrs := s.pcrs.set p { s.pcr p with busyTimer := none, phase := .awaitGrant } }))

/-- R63, R68, R73, R87, R91: the expiry of a WAIT completes its step. With CHAIN clear the run ends READY, or DEGRADED when
its degraded flag is set; with CHAIN set it goes on at the next index, or is HELD there when a hold is pending, or fails
with BAD_STEP at the end of the step range. -/
def Obligations.WaitExpiryCompletesTheStep : Prop :=
  ∀ (s : State) (p e i : Nat) (f : StepFlags) (d : Nat), 1 ≤ p → p ≤ 4 →
    let x := s.pcr p
    let pr := s.runProfile p
    x.waitTimer = some e → x.stepIndex = some i → s.stepAt i = .step f (.wait d) →
    ∃ t, exec (.waitTimerExpiry p) s = .next t ∧ s.keepsInputs t ∧ t.now = max s.now e ∧
      (f.chain = false → s.settled → x.phase = .timer → t = { s with
        now := max s.now e
        pcrs := s.pcrs.set p { x with
          waitTimer := none, phase := .idle, holdPending := false
          state := (if x.degraded then .degraded else .ready) }
        cab := s.cab.afterNotices [.position p (if x.degraded then .degraded else .ready) x.cause] }) ∧
      (f.chain = true → i + 1 = pr.firstStep + pr.stepCount → t.pcr p = { x with
        waitTimer := none, phase := .idle, holdPending := false, state := .failed, cause := some .badStep }) ∧
      (f.chain = true → i + 1 ≠ pr.firstStep + pr.stepCount → x.holdPending = true → t.pcr p = { x with
        waitTimer := none, phase := .idle, holdPending := false, state := .held, stepIndex := some (i + 1) }) ∧
      (∀ g d', f.chain = true → i + 1 ≠ pr.firstStep + pr.stepCount → x.holdPending = false → x.state = .bringingUp →
        x.executed < 256 → s.stepAt (i + 1) = .step g (.wait d') → t.pcr p = { x with
          waitTimer := some (max s.now e + d' * 10000), phase := .timer, stepIndex := some (i + 1)
          executed := x.executed + 1, attempts := 0, busyRetries := 0 })

/-- R43, R120, R121, R122: the scan period's timer restarts; with a round in progress the round is overdue, at the scanner and at
the arbiter; else a round starts, its poll list the occupied positions that are not IDENTIFYING, its first work the first of
them. -/
def Obligations.ScanPeriodStartsARound : Prop :=
  ∀ s : State, ∃ t, exec .scanPeriodExpiry s = .next t ∧ s.keepsInputs t ∧
    t.now = max s.now s.scanner.periodTimer ∧
    t.scanner.periodTimer = max s.now s.scanner.periodTimer + s.params.scanPeriod * 10000 ∧
    (s.settled → s.mayGrant = false → s.scanner.round = true → t = { s with
      now := max s.now s.scanner.periodTimer
      scanner := { s.scanner with
        periodTimer := max s.now s.scanner.periodTimer + s.params.scanPeriod * 10000, overdue := true }
      arbiter := { s.arbiter with scanOverdue := true } }) ∧
    (∀ p rest, s.settled → s.mayGrant = false → s.scanner.round = false → s.scanner.request = none →
      s.scanner.attention = [] →
      allPositions.filter (fun q => s.occupied q && (s.pcr q).state != .identifying) = p :: rest → t = { s with
        now := max s.now s.scanner.periodTimer
        scanner := { s.scanner with
          periodTimer := max s.now s.scanner.periodTimer + s.params.scanPeriod * 10000
          round := true, overdue := false, attention := [], pollList := rest, request := some (.poll p)
          initialSet := s.scanner.initialSet.map (fun i => { i with tried := false }) } })

/-! ### Scanner -/

/-- R127: a change delivered for a point takes its key from the initial-read set; without an entry it is ignored; the filter
CHANGE passes a value that differs from the last reported, DELTA one that differs from it by the threshold or more, and each a
first value; a value passed becomes the last reported and is placed as a report.
R122 to R128, R131: the choice of the scanner's next work, a change-list read before a poll before an initial read, and the
end of a round where nothing is left; the grant of a piece of work; what the outcome of a poll, a change-list read and an
initial read brings; a position's ATTENTION; what RESET_LINK and a break return.
The model's choices: an initial read that faults leaves the tried mark of its key as it is, also where the key has left the
set and joined it again untried while the read was outstanding, so that the key is read again in the round (log entry 34); the
returned request of a detached position is dropped, and the return of another is stated for a scanner with no request chosen
meanwhile (log entry 10); a break drops the scanner's work (log entry 26). -/
def Obligations.DeliveredChangesPassTheFilter : Prop :=
  (∀ s : State,
    let sc := s.scanner
    let t := s.chooseWork
    let scanned := sc.attention.filter s.scannedAt
    (sc.request.isSome ∨ sc.round = false → t = s) ∧
    (sc.request = none → sc.round = true →
      (∀ p rest, scanned = p :: rest →
        t = { s with scanner := { sc with attention := rest, request := some (.changeList p) } }) ∧
      (scanned = [] →
        (∀ p rest, sc.pollList = p :: rest →
          t = { s with scanner := { sc with attention := [], pollList := rest, request := some (.poll p) } }) ∧
        (sc.pollList = [] →
          (∀ pre i post, sc.initialSet = pre ++ i :: post → i.tried = false → s.scannedAt i.key.pos = true →
            (∀ o ∈ pre, o.tried = true ∨ s.scannedAt o.key.pos = false) →
            t = { s with scanner := { sc with
              attention := [], request := some (.initialRead i.key.pos i.key.point) } }) ∧
          ((∀ i ∈ sc.initialSet, i.tried = true ∨ s.scannedAt i.key.pos = false) →
            (sc.outstanding = [] → t = { s with
              scanner := { sc with attention := [], round := false, overdue := false }
              arbiter := { s.arbiter with scanOverdue := false } }) ∧
            (sc.outstanding ≠ [] → t = { s with scanner := { sc with attention := [] } })))))) ∧
  (∀ (s : State) (serial : Nat) (w : ScanWork),
    let sc := s.scanner
    let now := { sc with request := none, outstanding := sc.outstanding ++ [⟨serial, w⟩] }
    ((∃ p, w = .poll p ∨ w = .changeList p) → s.scanGranted serial w = ({ s with scanner := now } : State).chooseWork) ∧
    (∀ p a, w = .initialRead p a → s.scanGranted serial w = ({ s with scanner := { now with
      initialSet := sc.initialSet.map (fun i => if i.key = ⟨p, a⟩ then { i with tried := true } else i) } } : State).chooseWork)) ∧
  (∀ (s : State) (p : Nat),
    (s.scannedAt p = false → s.takeAttention p = s) ∧
    (s.scannedAt p = true → s.takeAttention p =
      ({ s with scanner := { s.scanner with attention := insertAsc p s.scanner.attention } } : State).chooseWork)) ∧
  (∀ (s : State) (w : ScanWork) (e : Ended),
    let settled : State := { s with scanner := { s.scanner with
      outstanding := s.scanner.outstanding.filter (fun o => o.serial != e.txn.serial) } }
    (e.txn.stale = true → s.scanEnded w e = settled.chooseWork) ∧
    (e.txn.stale = false →
      (∀ p, w = .poll p → s.scanEnded w e = settled.chooseWork) ∧
      (∀ p, w = .changeList p →
        let attention := (∃ x, e.ending = some x ∧ x.attention = true) ∨
          (e.ending = none ∧ ∃ x, e.initial = some x ∧ x.attention = true)
        let ends := fun (u : State) =>
          (attention → s.scanEnded w e =
            ({ u with scanner := { u.scanner with attention := insertAsc p u.scanner.attention } } : State).chooseWork) ∧
          (¬ attention → s.scanEnded w e = u.chooseWork)
        (∀ a l h b m n : Byte, e.outcome = .accepted [a, l, h, b, m, n] →
          let first := if a = 0 then settled else settled.deliverChange ⟨p, a.toNat⟩ (l.toNat + 256 * h.toNat)
          ends (if b = 0 then first else first.deliverChange ⟨p, b.toNat⟩ (m.toNat + 256 * n.toNat))) ∧
        (∀ r bs, e.outcome = .length r bs →
          (bs.length < 3 → ends settled) ∧
          (∀ (a l h : Byte) more, bs = a :: l :: h :: more → more.length < 3 →
            ends (if a = 0 then settled else settled.deliverChange ⟨p, a.toNat⟩ (l.toNat + 256 * h.toNat)))) ∧
        (e.outcome = .noNode ∨ e.outcome = .linkCheck ∨ e.outcome = .timeout ∨ e.outcome = .linkReset ∨
          (∃ st, e.outcome = .nodeStatus st) → ends settled)) ∧
      (∀ p a, w = .initialRead p a → ordered ReportEntry.before s.scanner.map →
        let k : PointKey := ⟨p, a⟩
        let reads := fun (v : Nat) =>
          ((∃ i ∈ s.scanner.initialSet, i.key = k) →
            let left : State := { settled with scanner := { settled.scanner with
              initialSet := s.scanner.initialSet.filter (fun i => !(i.key == k)) } }
            (∀ x ∈ s.scanner.map, x.key = k → s.scanEnded w e = ({ left with
              scanner := { left.scanner with
                map := s.scanner.map.map (fun o => if o.key = k then { o with last := some v } else o) }
              cab := s.cab.placeReport ⟨x.code, p, v⟩ } : State).chooseWork) ∧
            ((∀ x ∈ s.scanner.map, x.key ≠ k) → s.scanEnded w e = left.chooseWork)) ∧
          ((∀ i ∈ s.scanner.initialSet, i.key ≠ k) → s.scanEnded w e = (settled.deliverChange k v).chooseWork)
        (∀ lo hi more, e.outcome = .accepted (lo :: hi :: more) → reads (lo.toNat + 256 * hi.toNat)) ∧
        (∀ r b more, e.outcome = .length r (b :: more) → reads b.toNat) ∧
        (e.outcome = .noNode ∨ e.outcome = .linkCheck ∨ e.outcome = .timeout ∨ e.outcome = .linkReset ∨
          (∃ st, e.outcome = .nodeStatus st) ∨ (∃ r, e.outcome = .length r []) →
          s.scanEnded w e = settled.chooseWork)))) ∧
  (∀ (s : State) (w : ScanWork) (x : Txn),
    let settled : State := { s with scanner := { s.scanner with
      outstanding := s.scanner.outstanding.filter (fun o => o.serial != x.serial) } }
    s.scanDropped x = settled.chooseWork ∧
    (x.stale = true → s.scanReturned w x = settled.chooseWork) ∧
    (x.stale = false → s.scanner.request = none →
      ((∃ p, w = .poll p ∨ w = .changeList p) →
        s.scanReturned w x = { settled with scanner := { settled.scanner with request := some w } }) ∧
      (∀ p a, w = .initialRead p a → s.scanReturned w x = { settled with scanner := { settled.scanner with
        request := some w
        initialSet := s.scanner.initialSet.map (fun i => if i.key = ⟨p, a⟩ then { i with tried := false } else i) } }))) ∧
  ∀ (s : State) (p a v : Nat), ordered ReportEntry.before s.scanner.map →
    let t := s.deliverChange ⟨p, a⟩ v
    t.scanner.initialSet = s.scanner.initialSet.filter (fun i => !(i.key == ⟨p, a⟩)) ∧
    ((∀ e ∈ s.scanner.map, e.key ≠ ⟨p, a⟩) → t.scanner.map = s.scanner.map ∧ t.cab = s.cab) ∧
    (∀ e ∈ s.scanner.map, e.key = ⟨p, a⟩ →
      let reported := e.last = none ∨ ∃ w, e.last = some w ∧
        ((e.filter = .change ∧ w ≠ v) ∨ (e.filter = .delta ∧ (e.threshold ≤ v - w ∨ e.threshold ≤ w - v)))
      (¬ reported → t.scanner.map = s.scanner.map ∧ t.cab = s.cab) ∧
      (reported →
        t.scanner.map = s.scanner.map.map (fun o => if o.key = ⟨p, a⟩ then { o with last := some v } else o) ∧
        t.cab = s.cab.placeReport ⟨e.code, p, v⟩))

/-! ### Output writes -/

/-- R54, R69, R106, R107, R109, R111 to R115, R141: an output point record and the Output Write Queue. An evaluation has a
record join the queue at its tail when it needs a write and leave it when it does not; a grant takes it out, its applied duty
in flight. The outcome of its write: ACCEPTED makes the value in flight the accepted duty, and a retiring record accepted at 0
goes; UNIT_CHECK or POINT_INVALID makes it faulted at duty 0, or removes it if retiring, and a READY position becomes DEGRADED
with the cause; every other outcome leaves the accepted duty; then the record is evaluated anew. RESET_LINK's return puts it
at the head of its class: the model's choice (log entry 24) is that this is the front of the one list in which it keeps both
classes. A stale outcome changes nothing, and a record whose node has taken a duty within its allowance leaves the hold
set. A duty that a run's WRITE_POINT gave the node is noted as the accepted one, in every write state, and the record is then
evaluated. The record clauses take tables in their order, duties that follow their inputs and the other records evaluated. -/
def Obligations.OutputWritesFollowTheirOutcomes : Prop :=
  (∀ (r : OutRec) (queue : List PointKey),
    let off := r.retiring = true ∧ (r.accepted = none ∨ r.accepted = some 0)
    let needs := r.faulted = false ∧ r.accepted ≠ some r.applied ∧ ¬ off
    (r.gone = true ↔ (r.retiring = true ∧ r.faulted = true) ∨ (off ∧ r.write ≠ .inFlight)) ∧
    (r.write = .idle → needs → r.evaluated = { r with write := .queued } ∧ queueAfter r queue = queue ++ [r.key]) ∧
    (r.write = .queued → ¬ needs → r.evaluated = { r with write := .idle } ∧
      queueAfter r queue = queue.filter (fun k => k != r.key)) ∧
    ((r.write = .idle ∧ ¬ needs) ∨ (r.write = .queued ∧ needs) ∨ r.write = .inFlight →
      r.evaluated = r ∧ queueAfter r queue = queue)) ∧
  (∀ (s : State) (r : OutRec), ordered OutRec.before s.translator.points → r ∈ s.translator.points →
    (∀ serial, s.txnFor (.write r) serial = { serial := serial, requester := .translator, address := r.key.pos, kind := .write
                                              point := r.key.point, count := 1, send := [byteOf r.applied], stale := false }) ∧
    s.grantWrite r = { s with translator := { s.translator with
      points := s.translator.points.map (fun o =>
        if o.key = r.key then { o with write := .inFlight, inFlight := some r.applied } else o)
      queue := s.translator.queue.filter (fun k => k != r.key) } }) ∧
  (∀ (s : State) (e : Ended) (r : OutRec) (v : Nat),
    let k := r.key
    let t := s.writeEnded e
    let rest := s.translator.points.filter (fun o => o.key != k)
    let becomes := fun (x : OutRec) => s.translator.points.map (fun o => if o.key = k then x else o)
    let faulty := ∃ st, e.outcome = .nodeStatus st ∧ (st.unitCheck = true ∨ st.pointInvalid = true)
    let idle := fun (accepted : Option Nat) =>
      let x := { r with accepted := accepted, inFlight := none, write := .idle }
      (r.retiring = true → accepted = none ∨ accepted = some 0 →
        t.translator = { s.translator with points := rest } ∧ k ∉ t.feed.holdSet) ∧
      (¬(r.retiring = true ∧ (accepted = none ∨ accepted = some 0)) →
        (accepted ≠ some r.applied → t.translator = { s.translator with
          points := becomes { x with write := .queued }, queue := s.translator.queue ++ [k] }) ∧
        (accepted = some r.applied → t.translator = { s.translator with points := becomes x }) ∧
        (k ∈ t.feed.holdSet ↔ k ∈ s.feed.holdSet ∧ r.cls = .comfort ∧ r.applied < accepted.getD 0))
    e.txn.address = k.pos → e.txn.point = k.point →
    (e.txn.stale = true → t = s) ∧
    (e.txn.stale = false → s.tablesGood → s.dutiesGood → r ∈ s.translator.points → r.write = .inFlight →
      r.inFlight = some v → r.faulted = false → k ∉ s.translator.queue →
      (∀ o ∈ s.translator.points, o.key ≠ k → o.gone = false ∧ o.evaluated = o) →
      (∀ bs, e.outcome = .accepted bs → idle (some v)) ∧
      (¬ faulty → (∀ bs, e.outcome ≠ .accepted bs) → idle r.accepted) ∧
      (∀ st, e.outcome = .nodeStatus st → st.unitCheck = true ∨ st.pointInvalid = true →
        let cause := if st.unitCheck then Cause.unitCheck else .pointInvalid
        (r.retiring = true → ∀ o ∈ t.translator.points, o.key ≠ k) ∧
        (r.retiring = false → { r with write := .idle, inFlight := none, faulted := true, requested := 0, applied := 0 } ∈
          t.translator.points) ∧
        k ∉ t.translator.queue ∧ k ∉ t.feed.holdSet ∧
        (1 ≤ k.pos → k.pos ≤ 4 → (s.pcr k.pos).state ≠ .empty → t.pcr k.pos = { s.pcr k.pos with
          cause := some cause
          state := (if (s.pcr k.pos).state = .ready then .degraded else (s.pcr k.pos).state) })))) ∧
  (∀ (s : State) (r : OutRec), s.tablesGood → s.dutiesGood → r ∈ s.translator.points → r.write = .inFlight →
    r.faulted = false → r.key ∉ s.translator.queue →
    (∀ o ∈ s.translator.points, o.key ≠ r.key → o.gone = false ∧ o.evaluated = o) →
    let t := s.writeReturned r.key
    let becomes := fun (w : WriteState) => s.translator.points.map (fun o =>
      if o.key = r.key then { r with inFlight := none, write := w } else o)
    let off := r.retiring = true ∧ (r.accepted = none ∨ r.accepted = some 0)
    (off → t.translator = { s.translator with points := s.translator.points.filter (fun o => o.key != r.key) }) ∧
    (¬ off → r.accepted ≠ some r.applied → t.translator = { s.translator with
      points := becomes .queued, queue := r.key :: s.translator.queue }) ∧
    (¬ off → r.accepted = some r.applied → t.translator = { s.translator with points := becomes .idle })) ∧
  (∀ (s : State) (r : OutRec) (sent : List Byte), s.tablesGood → s.dutiesGood → r ∈ s.translator.points →
    (∀ o ∈ s.translator.points, o.key ≠ r.key → o.gone = false ∧ o.evaluated = o) →
    let t := s.noteRunWrite r.key sent
    let becomes := fun (x : OutRec) => s.translator.points.map (fun o => if o.key = r.key then x else o)
    let left := s.translator.queue.filter (fun k => k != r.key)
    let notes := fun (held : Option Nat) =>
      let x := { r with accepted := held }
      let needs := r.faulted = false ∧ held ≠ some r.applied
      let goes := r.retiring = true ∧ (r.faulted = true ∨ (r.write ≠ .inFlight ∧ (held = none ∨ held = some 0)))
      (goes → t.translator = { s.translator with
        points := s.translator.points.filter (fun o => o.key != r.key), queue := left }) ∧
      (¬ goes →
        (r.write = .inFlight ∨ (r.write = .queued ∧ needs) ∨ (r.write = .idle ∧ ¬ needs) →
          t.translator = { s.translator with points := becomes x }) ∧
        (r.write = .queued → ¬ needs → t.translator = { s.translator with
          points := becomes { x with write := .idle }, queue := left }) ∧
        (r.write = .idle → needs → t.translator = { s.translator with
          points := becomes { x with write := .queued }, queue := s.translator.queue ++ [r.key] }))
    (∀ b : Byte, sent = [b] → notes (some b.toNat)) ∧ (∀ b c : Byte, sent = [b, c] → notes none))

/-! ### Engine -/

/-- R57, R71, R73, R86: a control step that begins acts on V and X in the same event and decides the next index. The
conditions of TEST are those of R57; the branch of a TEST that holds, and of a COUNT that leaves X below 0, goes to the index
plus the displacement; a target outside the step range fails the run with BAD_STEP, and a run that goes on with a hold pending
is HELD there. No control step may carry CRITICAL or SUPPRESS.
R55, R76, R85, R87 to R89, R149, R160, R161: what the other operations do as they begin. A binding step makes its entry with
the position as its owner and completes, or faults with TABLE_FULL and binds nothing; a transaction step awaits its grant, a
WAIT runs its timer; a FEED_REQUEST places its request, and the feed manager completes it in the event as granted or clamped,
or it waits for a settle; a LAMP_PROBE finds its circuit SHORTED, waits behind a holder, starts a pulse, or is measured at
once with a current of which only the bound 8191 is known (log entry 6). A position that holds or awaits the circuit's probe
already, which R160 rules out, does not join its waiters again (R150: no duplicates; log entry 19).
The model's choice (log entry 30): where a non-critical TABLE_FULL comes at the last index of the range with CHAIN set, the run
fails with the cause BAD_STEP, which overwrites TABLE_FULL, and the degraded flag stays. -/
def Obligations.ControlStepsActAtOnce : Prop :=
  ∀ (s : State) (p i : Nat) (f : StepFlags) (op : StepOp), 1 ≤ p → p ≤ 4 →
    let x := s.pcr p
    let pr := s.runProfile p
    let y := { x with executed := x.executed + 1, attempts := 0, busyRetries := 0 }
    let t := s.beginStep p
    x.state = .bringingUp → x.executed < 256 → x.stepIndex = some i → s.stepAt i = .step f op →
    let ended := fun (y : Pcr) =>
      { y with phase := .idle, holdPending := false, state := (if y.degraded then .degraded else .ready) }
    let fails := fun (y : Pcr) => { y with phase := .idle, holdPending := false, state := .failed, cause := some .badStep }
    let arrives := fun (y : Pcr) (j : Nat) =>
      if x.holdPending then { y with phase := .idle, stepIndex := some j, holdPending := false, state := .held }
      else { y with phase := .idle, stepIndex := some j }
    let goes := fun (y : Pcr) (j : Int) =>
      if (pr.firstStep : Int) ≤ j ∧ j < (pr.firstStep : Int) + pr.stepCount then arrives y j.toNat else fails y
    let falls := fun (y : Pcr) =>
      if f.chain = false then ended y
      else if i + 1 = pr.firstStep + pr.stepCount then fails y
      else arrives y (i + 1)
    ((op.mayCritical = true ∨ op.maySuppress = true) → (∀ v, op ≠ .setCount v) ∧ (∀ d, op ≠ .count d) ∧
      (∀ c n d, op ≠ .test c n d)) ∧
    (∀ v, op = .setCount v → t.pcr p = falls { y with x := v }) ∧
    (∀ d, op = .count d → t.pcr p =
      (if min 127 (x.x + 1) < 0 then goes { y with x := min 127 (x.x + 1) } ((i : Int) + d)
       else falls { y with x := min 127 (x.x + 1) })) ∧
    (∀ c n d, op = .test c n d →
      let holds := (c = .zero ∧ x.v = 0) ∨ (c = .nonzero ∧ x.v ≠ 0) ∨ (c = .below ∧ x.v < n) ∨ (c = .above ∧ n < x.v) ∨
        (c = .equal ∧ x.v = n)
      (holds → t.pcr p = goes y ((i : Int) + d)) ∧ (¬ holds → t.pcr p = falls y)) ∧
    (let faulted := if f.critical then { y with phase := .idle, holdPending := false, state := .failed, cause := some .tableFull }
      else falls { y with cause := some .tableFull, degraded := true }
     (∀ code a cls n mode param, op = .bindOut code a cls n mode param →
      let e : MapEntry := { code := code, target := .point ⟨p, a⟩, mode := mode, param := param, owner := p }
      let known := ∃ o ∈ s.translator.map, o.code = code ∧ o.target = e.target
      let recorded := ∃ r ∈ s.translator.points, r.key = ⟨p, a⟩
      let full := (¬ known ∧ 96 ≤ s.translator.map.length) ∨ (¬ recorded ∧ 96 ≤ s.translator.points.length)
      (full → t.pcr p = faulted ∧ t.translator = s.translator) ∧
      (¬ full → s.tablesGood → t.pcr p = falls y ∧
        (∀ o, o ∈ t.translator.map ↔ o = e ∨ (o ∈ s.translator.map ∧ ¬(o.code = code ∧ o.target = e.target))) ∧
        (∃ r ∈ t.translator.points, r.key = ⟨p, a⟩ ∧ r.cls = cls ∧ r.nominal = n ∧ r.faulted = false ∧
          r.retiring = false ∧ r.requested = t.greatestMapped ⟨p, a⟩))) ∧
     (∀ a code filter n, op = .bindIn a code filter n →
      let e : ReportEntry := { key := ⟨p, a⟩, code := code, filter := filter, threshold := n, last := none, owner := p }
      let known := ∃ o ∈ s.scanner.map, o.key = ⟨p, a⟩
      (¬ known → 64 ≤ s.scanner.map.length → t.pcr p = faulted ∧ t.scanner = s.scanner) ∧
      (known ∨ s.scanner.map.length < 64 → s.tablesGood → t.pcr p = falls y ∧
        (∀ o, o ∈ t.scanner.map ↔ o = e ∨ (o ∈ s.scanner.map ∧ o.key ≠ ⟨p, a⟩)) ∧
        t.scanner.initialSet = s.scanner.initialSet ++
          (if ∃ k ∈ s.scanner.initialSet, k.key = ⟨p, a⟩ then [] else [⟨⟨p, a⟩, false⟩])))) ∧
    (∀ c n, op = .bindLoad c n → 1 ≤ c → c ≤ 10 → s.tablesGood → s.lamps.circuits.length = 10 → t.pcr p = falls y ∧
      (∀ o, o ∈ t.lamps.roll ↔ o = ⟨p, c, n⟩ ∨ (o ∈ s.lamps.roll ∧ ¬(o.pos = p ∧ o.circuit = c))) ∧
      t.circuit c = (if (s.circuit c).lamp = .shorted then { s.circuit c with low := 0, high := 0, inn := 0 }
        else { s.circuit c with low := 0, high := 0, inn := 0, lamp := .unchecked, deviation := 0 })) ∧
    ((∃ a n fromV v, op = .writePoint a n fromV v) ∨ (∃ a n, op = .readPoint a n) ∨ op = .sense →
      t.pcr p = { y with phase := .awaitGrant }) ∧
    (∀ d, op = .wait d → t.pcr p = { y with phase := .timer, waitTimer := some (s.now + d * 10000) }) ∧
    (∀ cls, op = .feedRequest cls → t.pcr p = { y with phase := .feed } ∧
      t.feed.requests = s.feed.requests.set p cls ∧
      (s.feed.waiting = [] →
        (cls ≤ t.feed.budget → t.feed.waiting = [] ∧
          t.ev.jobs = s.ev.jobs ++ [.complete p (some t.feed.budget) none]) ∧
        (t.feed.budget < cls → t.feed.movement = .settling → t.feed.waiting = [p] ∧ t.ev.jobs = s.ev.jobs) ∧
        (t.feed.budget < cls → t.feed.movement ≠ .settling → t.feed.waiting = [] ∧
          t.ev.jobs = s.ev.jobs ++ [.complete p (some t.feed.budget) (some .feedClamped)]))) ∧
    (∀ c expected, op = .lampProbe c expected → 1 ≤ c → c ≤ 10 → s.lamps.circuits.length = 10 →
      let z := s.circuit c
      let others := ((s.lamps.roll.filter (fun l => l.circuit == c && l.pos != p)).map (·.nominal)).sum
      let tol := max s.params.lampMin ((expected * s.params.lampTol + 50) / 100)
      t.pcr p = { y with phase := .probe } ∧
      (z.lamp = .shorted → t.circuit c = z ∧ t.ev.jobs = s.ev.jobs ++ [.complete p none (some .circuitFault)]) ∧
      (z.lamp ≠ .shorted → z.holder.isSome → t.ev.jobs = s.ev.jobs ∧
        ((∀ w ∈ z.probes, w.pos ≠ p) → t.circuit c = { z with waiters := z.waiters ++ [⟨p, expected⟩] }) ∧
        ((∃ w ∈ z.probes, w.pos = p) → t.circuit c = z)) ∧
      (z.lamp ≠ .shorted → z.holder = none → z.waiters = [] →
        (z.output = false → t.circuit c = { z with
            output := true, onSince := s.now, holder := some ⟨p, expected⟩, pulse := some (s.now + 100000) } ∧
          t.ev.jobs = s.ev.jobs) ∧
        (z.output = true → s.now - z.onSince < 50000 →
          t.circuit c = { z with holder := some ⟨p, expected⟩, pulse := some (s.now + 100000) } ∧
          t.ev.jobs = s.ev.jobs) ∧
        (z.output = true → 50000 ≤ s.now - z.onSince →
          (t.circuit c).holder = none ∧ (t.circuit c).pulse = none ∧ (t.circuit c).output = z.requested ∧
          ∃ m, m ≤ 8191 ∧ t.ev.jobs = s.ev.jobs ++ [.complete p (some (m - others))
            (if expected - tol ≤ m - others ∧ m - others ≤ expected + tol then none else some .probeMismatch)])))

/-- R74: what a step fault does by the flags of its step. SUPPRESS turns LENGTH, PROBE_MISMATCH and FEED_CLAMPED into success;
CRITICAL fails the run with the fault's cause; else the cause and the degraded flag are set and the next index decided as after a
success. -/
def Obligations.StepFaultsFollowTheFlags : Prop :=
  ∀ (s : State) (p i : Nat) (f : StepFlags) (op : StepOp) (c : Cause), 1 ≤ p → p ≤ 4 →
    let x := s.pcr p
    x.stepIndex = some i → s.stepAt i = .step f op →
    (f.suppress = true → c = .length ∨ c = .probeMismatch ∨ c = .feedClamped → s.stepFault p c = s.succeed p) ∧
    (f.suppress = false ∨ (c ≠ .length ∧ c ≠ .probeMismatch ∧ c ≠ .feedClamped) →
      (f.critical = true → (s.stepFault p c).pcr p =
        { x with cause := some c, phase := .idle, holdPending := false, state := .failed }) ∧
      (f.critical = false → s.stepFault p c =
        (({ s with pcrs := s.pcrs.set p { x with cause := some c, degraded := true } } : State)).succeed p))

/-- R73, R74, R76 to R82: the outcome of the transaction a step awaits. ACCEPTED completes the step: a READ_POINT has its
value in V unless SKIP is set, a SENSE its bytes. A link failure is requested again below three attempts and faults at
three; UNIT_CHECK asks for an automatic SENSE and faults after it; then POINT_INVALID faults at once; BUSY alone waits 10
ms below five retries and then faults with NODE_BUSY; LENGTH keeps the residual and faults, or with SUPPRESS completes the
step, a READ_POINT taking V from the bytes received. A fault fails the run of a CRITICAL step; of any other step it leaves
cause and degraded flag, and the next index is decided as after a success (a BAD_STEP there overwrites the cause: log
entry 30). Any other transaction's outcome changes nothing; that the ACCEPTED WRITE_POINT of an abandoned step leaves the
output point record without R54's note is the model's choice (log entry 29). -/
def Obligations.StepOutcomesAreTaken : Prop :=
  ∀ (s : State) (e : Ended) (i : Nat) (f : StepFlags) (op : StepOp),
    let p := e.txn.address
    let x := s.pcr p
    let pr := s.runProfile p
    let got := (s.engineEnded e).pcr p
    let completes := fun (y : Pcr) =>
      if f.chain = false then
        { y with phase := .idle, holdPending := false, state := (if y.degraded then .degraded else .ready) }
      else if i + 1 = pr.firstStep + pr.stepCount then
        { y with phase := .idle, holdPending := false, state := .failed, cause := some .badStep }
      else if y.holdPending then { y with phase := .idle, holdPending := false, state := .held, stepIndex := some (i + 1) }
      else { y with phase := .idle, stepIndex := some (i + 1) }
    let faults := fun (y : Pcr) (c : Cause) =>
      if f.critical then { y with phase := .idle, holdPending := false, state := .failed, cause := some c }
      else completes { y with cause := some c, degraded := true }
    1 ≤ p → p ≤ 4 → x.stepIndex = some i → s.stepAt i = .step f op →
    (e.txn.stale = true ∨ x.awaited ≠ some e.txn.serial → s.engineEnded e = s) ∧
    (e.txn.stale = false → x.awaited = some e.txn.serial → x.senseInProgress = false →
      let y := { x with awaited := none, lastInitial := e.initial, lastEnding := e.ending.map (fun (x : EndingStatus) => x.completion) }
      (∀ lo a, op = .readPoint a 1 → e.outcome = .accepted [lo] →
        got = completes { y with v := if f.skip then x.v else lo.toNat }) ∧
      (∀ lo hi more a n, op = .readPoint a n → 2 ≤ n → e.outcome = .accepted (lo :: hi :: more) →
        got = completes { y with v := if f.skip then x.v else lo.toNat + 256 * hi.toNat }) ∧
      (∀ bs, op = .sense → bs.length ≤ 4 → e.outcome = .accepted bs → got = completes { y with sense := bs }) ∧
      (∀ a n fromV v bs, op = .writePoint a n fromV v → e.outcome = .accepted bs → got = completes y) ∧
      (∀ r bs, e.outcome = .length r bs →
        (f.suppress = false → got = faults { y with residual := r } .length) ∧
        (∀ a n, op = .readPoint a n → f.suppress = true →
          (f.skip = true ∨ bs = [] → got = completes { y with residual := r }) ∧
          (f.skip = false →
            (∀ b, bs = [b] → got = completes { y with residual := r, v := b.toNat }) ∧
            (∀ lo hi more, bs = lo :: hi :: more → 2 ≤ n →
              got = completes { y with residual := r, v := lo.toNat + 256 * hi.toNat }))) ∧
        (∀ a n fromV v, op = .writePoint a n fromV v → f.suppress = true → got = completes { y with residual := r })) ∧
      (∀ c : Cause, (e.outcome = .noNode ∧ c = .noNode) ∨ (e.outcome = .linkCheck ∧ c = .linkCheck) ∨
          (e.outcome = .timeout ∧ c = .timeout) ∨ (e.outcome = .linkReset ∧ c = .linkReset) →
        (x.attempts + 1 < 3 → got = { y with attempts := x.attempts + 1, phase := .awaitGrant }) ∧
        (3 ≤ x.attempts + 1 → got = faults { y with attempts := x.attempts + 1 } c)) ∧
      (∀ st, e.outcome = .nodeStatus st →
        (st.unitCheck = true → got = { y with senseInProgress := true, phase := .awaitGrant }) ∧
        (st.unitCheck = false → st.pointInvalid = true → got = faults y .pointInvalid) ∧
        (st.unitCheck = false → st.pointInvalid = false →
          (x.busyRetries < 5 → got = { y with
            busyRetries := x.busyRetries + 1, phase := .timer, busyTimer := some (s.now + 10000) }) ∧
          (5 ≤ x.busyRetries → got = faults y .nodeBusy)))) ∧
    (e.txn.stale = false → x.awaited = some e.txn.serial → x.senseInProgress = true →
      got = faults { x with awaited := none, senseInProgress := false, sense := e.outcome.senseBytes } .unitCheck)

/-- R48, R50: matching gives the first slot whose valid record has the type code and a revision range around the revision; else
the slot that carries the fallback mark; else none. The point count takes no part. Without an identity only the fallback is
found.
R6, R11 to R17, R64, R65: what the outcome of the enumerator's own transaction does, by its state. An ASSIGN accepted makes the
position at the cursor occupied and asks for its identity, and NO_NODE ends the growth; an identity read hands the identity to
be matched, or IDENT_FAILED, and the downstream state is read next, which ends in DONE, closes the pass-through, finds the chain
too long or truncates it; a pass-through write accepted starts its wait. A failed attempt is made again below three, a BUSY after
10 ms, and any other failure halts with its cause. The model's choice (log entry 16): the attempts count stands in DONE and in
HALTED as growth left it. -/
def Obligations.MatchingTakesTheFirstSlot : Prop :=
  (∀ (s : State) (e : Ended), e.txn.stale = true ∨ s.enumerator.request ≠ .granted e.txn.serial → s.enumEnded e = s) ∧
  (∀ (s : State) (e : Ended), e.txn.stale = false → s.enumerator.request = .granted e.txn.serial →
    let n := s.enumerator
    let c := n.at
    let t := s.enumEnded e
    let done : Enumerator := { n with state := .done, request := .none, passWait := none, busyWait := none, cursor := none }
    let halts := fun (attempts : Nat) (cause : Cause) =>
      t.enumerator = { n with
        state := .halted, request := .none, passWait := none, busyWait := none, cursor := none, attempts := attempts
        haltCause := some cause } ∧
      .other (.chainHalted cause) ∈ t.ev.notices ∧
      (1 ≤ c → c ≤ 4 → n.state = .identifyingNode →
        t.pcr c = { s.pcr c with state := .failed, cause := some .identFailed })
    let works := n.state = .assigning ∨ n.state = .identifyingNode ∨ n.state = .checkingDownstream ∨ n.state = .closing
    (n.state = .assigning →
      (∀ bs, e.outcome = .accepted bs → t.enumerator = { n with
          occupancy := c, miss := n.miss.set c 0, state := .identifyingNode, request := .awaiting, attempts := 0 } ∧
        (1 ≤ c → c ≤ 4 → t.pcr c = { Pcr.empty with state := .identifying }) ∧
        (∀ p, 1 ≤ p → p ≤ 4 → p ≠ c → t.pcr p = s.pcr p)) ∧
      (e.outcome = .noNode → t.enumerator = done ∧ t.pcrs = s.pcrs)) ∧
    (n.state = .identifyingNode → 1 ≤ c → c ≤ 4 →
      let next : Enumerator := { n with state := .checkingDownstream, request := .awaiting, attempts := 0 }
      (∀ lo hi rev count : Byte, e.outcome = .accepted [lo, hi, rev, count] →
        let i : Identity := { typeCode := lo.toNat + 256 * hi.toNat, revision := rev.toNat, pointCount := count.toNat }
        (count ≠ 0 → t.enumerator = next ∧ (t.pcr c).identity = some i ∧ (t.pcr c).profileSlot = s.matchSlot (some i) ∧
          (s.matchSlot (some i) = none → t.pcr c =
            { s.pcr c with identity := some i, profileSlot := none, state := .unprofiled }) ∧
          (∀ slot, s.matchSlot (some i) = some slot →
            (¬(s.params.autoStart = 1 ∧ s.coupling.lock = true) → t.pcr c =
              { s.pcr c with identity := some i, profileSlot := some slot, state := .waiting }) ∧
            (s.params.autoStart = 1 → s.coupling.lock = true →
              (t.pcr c).state ≠ .waiting ∧ 1 ≤ (t.pcr c).executed))) ∧
        (count = 0 → t.enumerator = next ∧
          t.pcr c = { s.pcr c with state := .failed, cause := some .identFailed })) ∧
      ((∃ r bs, e.outcome = .length r bs) ∨
          (∃ st, e.outcome = .nodeStatus st ∧ ¬(st.busy = true ∧ st.unitCheck = false ∧ st.pointInvalid = false)) →
        t.enumerator = next ∧ t.pcr c = { s.pcr c with state := .failed, cause := some .identFailed })) ∧
    (n.state = .checkingDownstream → n.occupancy ≤ 4 → ∀ b : Byte, e.outcome = .accepted [b] →
      (c < n.occupancy → b ≠ 0 → t.enumerator = done ∧ t.pcrs = s.pcrs) ∧
      (c = n.occupancy → b ≠ 0 → c < 4 → t.pcrs = s.pcrs ∧
        t.enumerator = { n with state := .closing, request := .awaiting, attempts := 0 }) ∧
      (c = n.occupancy → b ≠ 0 → c = 4 → t.enumerator = done ∧ t.pcrs = s.pcrs ∧
        t.ev.notices = s.ev.notices ++ [.other .chainTooLong]) ∧
      (c = n.occupancy → b = 0 → t.enumerator = done ∧ t.pcrs = s.pcrs) ∧
      (1 ≤ c → c < n.occupancy → b = 0 → t.enumerator.state = .done ∧ t.enumerator.occupancy = c ∧
        t.enumerator.request = .none ∧ (∀ p, c < p → p ≤ n.occupancy → t.pcr p = Pcr.empty ∧
          .other (.position p .empty (some .truncated)) ∈ t.ev.notices))) ∧
    (n.state = .closing → ∀ bs, e.outcome = .accepted bs →
      t.enumerator = { n with request := .none, passWait := some (s.now + 5000) } ∧ t.pcrs = s.pcrs) ∧
    (works →
      (∀ cause, (e.outcome = .noNode ∧ n.state ≠ .assigning ∧ cause = .noNode) ∨
          (e.outcome = .linkCheck ∧ cause = .linkCheck) ∨ (e.outcome = .timeout ∧ cause = .timeout) →
        (n.attempts + 1 < 3 → t.enumerator = { n with request := .awaiting, attempts := n.attempts + 1 } ∧
          t.pcrs = s.pcrs) ∧
        (3 ≤ n.attempts + 1 → halts (n.attempts + 1) cause)) ∧
      (∀ st, e.outcome = .nodeStatus st →
        (st.busy = true → st.unitCheck = false → st.pointInvalid = false →
          (n.attempts + 1 < 3 → t.pcrs = s.pcrs ∧ t.enumerator = { n with
            request := .none, attempts := n.attempts + 1, busyWait := some (s.now + 10000) }) ∧
          (3 ≤ n.attempts + 1 → halts (n.attempts + 1) .nodeStatus)) ∧
        (¬(st.busy = true ∧ st.unitCheck = false ∧ st.pointInvalid = false) → n.state ≠ .identifyingNode →
          halts n.attempts .nodeStatus)) ∧
      (∀ r bs, e.outcome = .length r bs → n.state ≠ .identifyingNode → halts n.attempts .length) ∧
      (e.outcome = .linkReset → halts n.attempts .linkReset))) ∧
  ∀ (s : State) (i : Identity),
    let fits := fun (r : Profile) => r.valid = true ∧ r.typeCode = i.typeCode ∧ r.revLow ≤ i.revision ∧
      i.revision ≤ r.revHigh
    (∀ q, s.matchSlot (some i) = some q → ∃ r, s.profiles[q]? = some r ∧
      ((fits r ∧ ∀ j r', j < q → s.profiles[j]? = some r' → ¬ fits r') ∨
       (r.fallback = true ∧ ∀ r' ∈ s.profiles, ¬ fits r'))) ∧
    (s.matchSlot (some i) = none ↔ ∀ r ∈ s.profiles, ¬ fits r ∧ r.fallback = false) ∧
    (∀ n, s.matchSlot (some { i with pointCount := n }) = s.matchSlot (some i)) ∧
    (∀ q, s.matchSlot none = some q → ∃ r, s.profiles[q]? = some r ∧ r.fallback = true) ∧
    (s.matchSlot none = none ↔ ∀ r ∈ s.profiles, r.fallback = false)

/-! ### Feed -/

/-- R145, R146, R147: the arithmetic on any records and any budget class. SAFETY duties are as requested; COMFORT duties are as
requested when the budget carries both demands, in proportion to what the SAFETY demand leaves when it carries that alone, and
0 when it does not; the COMFORT currents never exceed what is left, and in a state whose duties follow
their inputs they do not either; shedding and over-budget say which case it is.
R132, R135: the drawn current is n × d / 255 rounded up, the floor is the smallest class whose budget carries the demand,
and 7 above 15000 mA.
R138 to R142: how a change of the target moves the classes in each movement state; which records a lower has join the hold set,
and which leave it; and the end of the hold when none is left (a record faulted already when it joins: log entry 33). With no
demand left a COMFORT record that draws nothing keeps its duty at class 0 too (log entry 27). -/
def Obligations.ArithmeticKeepsTheBudget : Prop :=
  (∀ s : State,
    let rs := s.translator.points
    let sd := ((rs.filter (fun r => r.cls == .safety)).map (fun r => drawn r.nominal r.requested)).sum
    let cd := ((rs.filter (fun r => r.cls == .comfort)).map (fun r => drawn r.nominal r.requested)).sum
    let b := classBudget s.feed.budget
    let t := s.applyBudget
    t.translator.points.length = rs.length ∧
    (∀ (n : Nat) (r : OutRec), rs[n]? = some r → ∃ a, t.translator.points[n]? = some { r with applied := a } ∧
      (r.cls = .safety → a = r.requested) ∧
      (r.cls = .comfort →
        (sd + cd ≤ b → a = r.requested) ∧ (b < sd + cd → sd ≤ b → a = r.requested * (b - sd) / cd ∧ (r.requested ≠ 0 → a < r.requested)) ∧
        (b < sd → a = 0) ∧ a ≤ r.requested)) ∧
    ((t.translator.points.filter (fun r => r.cls == .comfort)).map (fun r => r.nominal * r.applied)).sum ≤
      255 * (b - sd) ∧
    (s.dutiesGood → ((rs.filter (fun r => r.cls == .comfort)).map (fun r => r.nominal * r.applied)).sum ≤
      255 * (b - sd)) ∧
    (t.feed.shedding = true ↔ b < sd + cd) ∧ (t.feed.overBudget = true ↔ b < sd) ∧
    (t.feed.overBudget = true → t.feed.shedding = true)) ∧
  ((∀ n d, n * d ≤ 255 * drawn n d ∧ 255 * drawn n d < n * d + 255) ∧
  (∀ demand, demand ≤ 15000 → demand ≤ classBudget (floorOf demand)) ∧
  (∀ demand j, j < floorOf demand → classBudget j < demand) ∧ (∀ demand, 15000 < demand → floorOf demand = 7) ∧
  [0, 1, 2, 3, 4, 5, 6, 7].map classBudget = [0, 2000, 4000, 6000, 8000, 10000, 12500, 15000]) ∧
  (∀ (s : State) (target : Nat),
    let b := s.feed.budget
    let t := s.moveFeed target
    let raised : Feed := { s.feed with
      limit := target, settleTimer := some (s.now + s.params.settleMs * 1000), movement := .settling }
    (s.feed.movement = .steady → (target = b → t = s) ∧ (b < target → t = { s with feed := raised }) ∧
      (target < b → t = s.lowerFeed target)) ∧
    (s.feed.movement = .settling → (b < target → t = s) ∧
      (target = b → t = { s with feed := { s.feed with settleTimer := none, limit := b, movement := .steady } }) ∧
      (target < b → t = ({ s with feed := { s.feed with settleTimer := none } } : State).lowerFeed target)) ∧
    (s.feed.movement = .holding → (target = b → t = s) ∧
      (b < target → t = { s with feed := { raised with holdSet := [], holdTimer := none } }) ∧
      (target < b → t = s.lowerFeed target))) ∧
  (∀ (s : State) (target : Nat), ordered OutRec.before s.translator.points →
    let sd := ((s.translator.points.filter (fun r => r.cls == .safety)).map (fun r => drawn r.nominal r.requested)).sum
    let cd := ((s.translator.points.filter (fun r => r.cls == .comfort)).map (fun r => drawn r.nominal r.requested)).sum
    let t := s.lowerFeed target
    t.feed.budget = target ∧
    (∀ k, k ∈ t.feed.holdSet ↔
      (k ∈ s.feed.holdSet ∧ ∃ r ∈ s.translator.points, r.key = k ∧ r.cls = .comfort ∧ r.faulted = false ∧
        (r.write ≠ .idle ∨ appliedDuty sd cd (classBudget target) r < r.accepted.getD 0)) ∨
      (∃ r ∈ t.translator.points, r.key = k ∧ r.cls = .comfort ∧
        (r.applied < r.accepted.getD 0 ∨ (r.write = .inFlight ∧ r.applied < r.inFlight.getD 0)))) ∧
    (t.feed.holdSet = [] → t.feed.limit = target ∧ t.feed.holdTimer = none ∧ t.feed.movement = .steady) ∧
    (t.feed.holdSet ≠ [] → t.feed.limit = s.feed.limit ∧ t.feed.holdTimer = some (s.now + 100000) ∧
      t.feed.movement = .holding)) ∧
  (∀ s : State, ordered OutRec.before s.translator.points →
    let t := s.checkHold
    (∀ k, k ∈ t.feed.holdSet ↔ k ∈ s.feed.holdSet ∧ ∃ r ∈ s.translator.points, r.key = k ∧ r.cls = .comfort ∧
      r.faulted = false ∧ (r.write ≠ .idle ∨ r.applied < r.accepted.getD 0)) ∧
    (s.feed.movement = .holding → t.feed.holdSet = [] → t = { s with feed := { s.feed with
      holdSet := [], holdTimer := none, limit := s.feed.budget, movement := .steady } }) ∧
    (s.feed.movement ≠ .holding ∨ t.feed.holdSet ≠ [] → t = { s with feed := { s.feed with holdSet := t.feed.holdSet } }))

/-- R136, R137, R138, R143: a thermal zone event, with no FEED_REQUEST step waiting, or one alone whose run ends with it.
Entry to TRIP switches the feed off in any movement state; every other zone caps the target with its limit, and in STEADY
a target above the budget class starts a raise and one below it a lower: the budget class takes it at once, and the limit
class with it unless records join the hold set.
R134, R136, R137, R168: SET_PARAM of FEED_CAP is an input change of the feed manager: with no more steps waiting than that the
target is the formula of R137 with the cap just stored.
R88, R149: a step that waits in either event is granted, clamped or waits on, by the budget class and the movement state that
the event leaves. -/
def Obligations.FeedInputsMoveTheTarget : Prop :=
  (∀ (zone : Zone) (s : State), ∃ t, exec (.thermalZoneEvent zone) s = .next t ∧ s.keepsInputs t ∧ t.now = s.now ∧
    t.feed.zone = zone ∧
    (s.feed.waiting = [] → s.settled → t.pcrs = s.pcrs) ∧
    (∀ p cls f, s.waitsForFeed p cls f → s.feedStepTaken t p cls f) ∧
    (s.feedAlone → t.lamps = s.lamps ∧ t.translator.map = s.translator.map ∧ t.feed.requests = s.feed.requests ∧
      (zone = .trip → t.feed.limit = 0 ∧ t.feed.budget = 0 ∧ t.feed.target = 0 ∧ t.feed.movement = .steady ∧
        t.feed.settleTimer = none ∧ t.feed.holdTimer = none ∧ t.feed.holdSet = []) ∧
      (zone ≠ .trip → t.feed.demand = demandOf .safety s.translator.points ∧ t.feed.floor = floorOf t.feed.demand ∧
        t.feed.target = min (max (max (max s.feed.requests.p1 s.feed.requests.p2)
          (max s.feed.requests.p3 s.feed.requests.p4)) t.feed.floor)
          (min s.params.feedCap (match zone with | .normal => 7 | .warm => 5 | .hot => 2 | .trip => 0)) ∧
        (s.feed.movement = .steady → s.feed.target ≠ t.feed.target → s.feed.budget < t.feed.target →
          t.feed.limit = t.feed.target ∧ t.feed.budget = s.feed.budget ∧ t.feed.movement = .settling ∧
          t.feed.settleTimer = some (s.now + s.params.settleMs * 1000)) ∧
        (s.feed.movement = .steady → s.feed.target ≠ t.feed.target → t.feed.target < s.feed.budget →
          t.feed.budget = t.feed.target ∧
          (t.feed.holdSet = [] → t.feed.limit = t.feed.target ∧ t.feed.movement = .steady ∧ t.feed.holdTimer = none) ∧
          (t.feed.holdSet ≠ [] → t.feed.limit = s.feed.limit ∧ t.feed.movement = .holding ∧
            t.feed.holdTimer = some (s.now + 100000)))))) ∧
  (∀ (tag : Byte) (value : Half) (s : State), s.hasRoom → s.feedAlone →
    ∃ t, exec (.setParam tag 2 value) s = .next t ∧ t.params.feedCap = min 7 value.toNat ∧
      (∀ p cls f, s.waitsForFeed p cls f → s.feedStepTaken t p cls f) ∧
      t.feed.demand = demandOf .safety s.translator.points ∧ t.feed.floor = floorOf t.feed.demand ∧
      t.feed.target = min (max (max (max s.feed.requests.p1 s.feed.requests.p2)
        (max s.feed.requests.p3 s.feed.requests.p4)) t.feed.floor)
        (min (min 7 value.toNat) (match s.feed.zone with | .normal => 7 | .warm => 5 | .hot => 2 | .trip => 0)) ∧
      t.feed.requests = s.feed.requests)

/-- R139: the settle timer expires with target T held. Below the limit class both classes become T; at it the budget class
follows; above it the budget class takes the limit class and a further raise to T settles.
R142: the lower-hold timer expires with records still in the hold set: the set is emptied, the limit class follows the
budget class and the movement ends. The classes are stated where no FEED_REQUEST step waits, or one alone whose run ends with it.
R88, R149: at either expiry that step is granted, clamped or waits on. In any evaluation of the waiting steps, in any number,
each whose class the budget class has reached is completed as granted, and, unless a raise settles, each other one as clamped;
the completions are handed to the engine in the order in which the model lists the waiting steps, which is ascending, and V is
to become the budget class. -/
def Obligations.FeedTimersEndTheirMovements : Prop :=
  (∀ (s : State) (e : Nat), s.feed.settleTimer = some e → ∃ t, exec .settleTimerExpiry s = .next t ∧ s.keepsInputs t ∧
    t.now = max s.now e ∧
    (∀ p cls f, s.waitsForFeed p cls f → s.feedStepTaken t p cls f) ∧
    (s.feedAlone → t.feed.target = s.feed.target ∧ t.feed.zone = s.feed.zone ∧
      (s.feed.target ≤ s.feed.limit → t.feed.limit = s.feed.target ∧ t.feed.budget = s.feed.target ∧
        t.feed.movement = .steady ∧ t.feed.settleTimer = none) ∧
      (s.feed.limit < s.feed.target → t.feed.limit = s.feed.target ∧ t.feed.budget = s.feed.limit ∧
        t.feed.movement = .settling ∧ t.feed.settleTimer = some (max s.now e + s.params.settleMs * 1000)))) ∧
  (∀ (s : State) (e : Nat), s.feed.holdTimer = some e → ∃ t, exec .lowerHoldTimerExpiry s = .next t ∧ s.keepsInputs t ∧
    t.now = max s.now e ∧
    (∀ p cls f, s.waitsForFeed p cls f → s.feedStepTaken t p cls f) ∧
    (s.feedAlone → t.feed.limit = s.feed.budget ∧ t.feed.budget = s.feed.budget ∧
      t.feed.target = s.feed.target ∧ t.feed.movement = .steady ∧ t.feed.holdSet = [] ∧ t.feed.holdTimer = none ∧
      t.feed.requests = s.feed.requests ∧ t.feed.zone = s.feed.zone)) ∧
  (∀ s : State,
    let b := s.feed.budget
    let reached := fun p => decide (s.feed.requests.get p ≤ b)
    let completed := fun p => reached p || s.feed.movement != .settling
    s.evaluateWaiting = { s with
      feed := { s.feed with waiting := s.feed.waiting.filter (fun p => !completed p) }
      ev := { s.ev with jobs := s.ev.jobs ++ (s.feed.waiting.filter completed).map (fun p =>
        .complete p (some b) (if reached p then none else some .feedClamped)) } })

/-! ### Lamps -/

/-- R156 to R159: at a lamp check every circuit whose output is on for 50 ms, that holds no probe and is not SHORTED receives a
verdict of the current its driver senses against the sum of the nominal currents entered for it; counters, lamp state and
deviation follow the two tables of R158, every other circuit stays as it is, and each change places a CIRCUIT notice, in
ascending circuit order. The model's choices: the deviation is R158's E − M, or M − E, also where it is above the 8191 of R150's
table (log entry 14); the currents that the command brings stand as what the drivers sense (log entry 6), and the clock goes
to the expiry (log entry 2). -/
def Obligations.LampCheckJudgesEachCircuit : Prop :=
  ∀ (currents : List Nat) (s : State), s.lamps.circuits.length = 10 →
    ∃ t, exec (.lampCheckTimerExpiry currents) s = .next t ∧ s.keepsStores t ∧ t.coupling = s.coupling ∧
      t.pending = s.pending ∧ t.now = max s.now s.lamps.checkTimer ∧ t.lamps.sensed = currents ∧
      t.lamps.roll = s.lamps.roll ∧ t.lamps.checkTimer = max s.now s.lamps.checkTimer + 250000 ∧
      (s.settled → t = { s with
        now := max s.now s.lamps.checkTimer
        lamps := t.lamps
        cab := s.cab.afterNotices ((allCircuits.filter (fun c => (t.circuit c).lamp != (s.circuit c).lamp)).map
          (fun c => .circuit c (t.circuit c).lamp (t.circuit c).deviation)) }) ∧
      ∀ c, 1 ≤ c → c ≤ 10 →
        let x := s.circuit c
        let y := t.circuit c
        let m := min 8191 (currents.getD (c - 1) 0)
        let e := ((s.lamps.roll.filter (fun l => l.circuit == c)).map (·.nominal)).sum
        let tol := max s.params.lampMin ((e * s.params.lampTol + 50) / 100)
        let judged := x.output = true ∧ x.holder = none ∧ x.lamp ≠ .shorted ∧
          50000 ≤ max s.now s.lamps.checkTimer - x.onSince
        (¬ judged → y = x) ∧
        (judged →
          (y.requested, y.output, y.onSince, y.holder, y.waiters, y.pulse) =
            (x.requested, x.output, x.onSince, x.holder, x.waiters, x.pulse) ∧
          (m < e - tol → y.low = min 3 (x.low + 1) ∧ y.high = 0 ∧ y.inn = 0 ∧
            (y.low = 3 → y.lamp = .outage ∧ y.deviation = (if x.lamp = .outage then x.deviation else e - m)) ∧
            (y.low < 3 → y.lamp = x.lamp ∧ y.deviation = x.deviation)) ∧
          (e + tol < m → y.low = 0 ∧ y.high = min 3 (x.high + 1) ∧ y.inn = 0 ∧
            (y.high = 3 → y.lamp = .excess ∧ y.deviation = (if x.lamp = .excess then x.deviation else m - e)) ∧
            (y.high < 3 → y.lamp = x.lamp ∧ y.deviation = x.deviation)) ∧
          (e - tol ≤ m → m ≤ e + tol → y.low = 0 ∧ y.high = 0 ∧ y.inn = min 3 (x.inn + 1) ∧
            (x.lamp = .ok → y.lamp = .ok ∧ y.deviation = x.deviation) ∧
            (x.lamp = .unchecked → y.lamp = .ok ∧ y.deviation = 0) ∧
            (x.lamp = .outage ∨ x.lamp = .excess →
              (y.inn = 3 → y.lamp = .ok ∧ y.deviation = 0) ∧
              (y.inn < 3 → y.lamp = x.lamp ∧ y.deviation = x.deviation))))

/-- R151, R152, R159: a trip of a circuit whose output is on makes it SHORTED with its output off, its counters and deviation
0 and no probe, and so it stays whatever its runs do next; the requested state stays, and every other circuit where no run
held or awaited the probe. The CIRCUIT notice is placed, and the holder's step and then each waiter's, in list order, take
CIRCUIT_FAULT: a CRITICAL step fails its run, any other leaves the cause and the degraded flag, and its run ends DEGRADED,
or, with CHAIN and a hold pending, is HELD at the next index. What becomes of those runs is stated where the positions that
hold or await the probe are distinct ones of 1..4 (R150, R160), which every step keeps (StoresAndRangesAreKept). -/
def Obligations.TripShortsTheCircuit : Prop :=
  ∀ (c : Nat) (s : State), 1 ≤ c → c ≤ 10 → s.lamps.circuits.length = 10 → (s.circuit c).output = true →
    let x := s.circuit c
    let shorted : Circuit := { x with
      output := false, onSince := 0, lamp := .shorted, low := 0, high := 0, inn := 0, deviation := 0
      holder := none, waiters := [], pulse := none }
    ∃ t, exec (.driverOvercurrentTrip c) s = .next t ∧ s.keepsInputs t ∧ t.now = s.now ∧
      t.circuit c = shorted ∧
      (s.trip c).ev.jobs = s.ev.jobs ++
        x.probes.map (fun w => .complete w.pos none (some .circuitFault)) ∧
      (s.trip c).ev.notices = s.ev.notices ++ [.other (.circuit c .shorted 0)] ∧
      (x.holder = none → x.waiters = [] → s.settled → t = { s with
        lamps := { s.lamps with circuits := s.lamps.circuits.set (c - 1) shorted }
        cab := s.cab.afterNotices [.circuit c .shorted 0] }) ∧
      (x.probesGood → ∀ w ∈ x.probes, ∀ (i : Nat) (f : StepFlags) (op : StepOp),
        let p := w.pos
        let y := s.pcr p
        let pr := s.runProfile p
        y.state = .bringingUp → y.phase = .probe → y.stepIndex = some i → s.stepAt i = .step f op →
        (f.critical = true → t.pcr p = { y with
          state := .failed, phase := .idle, cause := some .circuitFault, holdPending := false }) ∧
        (f.critical = false → f.chain = false → t.pcr p = { y with
          state := .degraded, phase := .idle, cause := some .circuitFault, degraded := true, holdPending := false }) ∧
        (f.critical = false → f.chain = true → i + 1 ≠ pr.firstStep + pr.stepCount → y.holdPending = true →
          t.pcr p = { y with
            state := .held, phase := .idle, cause := some .circuitFault, degraded := true, holdPending := false
            stepIndex := some (i + 1) }))

/-- R157, R161, R162, R163: at the end of a probe pulse the share of the holder's position is the measured current, one above
8191 mA taken as 8191, less what the other positions entered, V becomes the share, the step matches inside the window around
its expected current and faults PROBE_MISMATCH outside it, and the circuit takes its requested state again. Stated for a step
that ends its run, with no position waiting for the probe; every other pulse's end is taken too. Where a position waits and the
circuit goes off with the release, the first that waits becomes the holder, and its own pulse starts with the output forced ON.
R68, R73, R74, R89: the completion ends the step's run. A match, or a mismatch with SUPPRESS, leaves it READY, or DEGRADED when
its degraded flag is set; a mismatch of a CRITICAL step leaves it FAILED with the cause, and any other DEGRADED with the cause and
the degraded flag. What a step with CHAIN goes on to, and a waiter on a circuit requested ON, are not stated here.
The model's choices: the current that the command brings stands as what the circuit's driver senses, and every other driver's
stays (log entry 6); the clock goes to the expiry (log entry 2). -/
def Obligations.ProbePulseMeasuresTheShare : Prop :=
  (∀ (c m : Nat) (s : State) (e : Nat), 1 ≤ c → c ≤ 10 → (s.circuit c).pulse = some e →
    ∃ t, exec (.probePulseExpiry c m) s = .next t ∧ s.keepsStores t ∧ t.now = max s.now e ∧
      t.coupling = s.coupling ∧ t.lamps.sensed = s.lamps.sensed.set (c - 1) m) ∧
  (∀ (c m : Nat) (s : State) (e p expected i : Nat) (f : StepFlags), 1 ≤ c → c ≤ 10 → 1 ≤ p → p ≤ 4 →
    s.lamps.circuits.length = 10 → s.lamps.sensed.length = 10 →
    let x := s.circuit c
    let y := s.pcr p
    let others := ((s.lamps.roll.filter (fun l => l.circuit == c && l.pos != p)).map (·.nominal)).sum
    let share := min 8191 m - others
    let tol := max s.params.lampMin ((expected * s.params.lampTol + 50) / 100)
    let matched := expected - tol ≤ share ∧ share ≤ expected + tol
    x.pulse = some e → x.holder = some ⟨p, expected⟩ → x.waiters = [] →
    y.state = .bringingUp → y.phase = .probe → y.stepIndex = some i →
    s.stepAt i = .step f (.lampProbe c expected) → f.chain = false →
    ∃ t, exec (.probePulseExpiry c m) s = .next t ∧ s.keepsStores t ∧ t.now = max s.now e ∧
      (t.circuit c).holder = none ∧ (t.circuit c).pulse = none ∧ (t.circuit c).waiters = [] ∧
      (t.circuit c).output = x.requested ∧ (t.circuit c).lamp = x.lamp ∧
      (∀ d, 1 ≤ d → d ≤ 10 → d ≠ c → t.circuit d = s.circuit d) ∧ t.lamps.roll = s.lamps.roll ∧
      (matched ∨ f.suppress = true → t.pcr p = { y with
        v := share, phase := .idle, holdPending := false, state := (if y.degraded then .degraded else .ready) }) ∧
      (¬ matched → f.suppress = false → f.critical = true → t.pcr p = { y with
        v := share, phase := .idle, holdPending := false, state := .failed, cause := some .probeMismatch }) ∧
      (¬ matched → f.suppress = false → f.critical = false → t.pcr p = { y with
        v := share, phase := .idle, holdPending := false, state := .degraded, degraded := true
        cause := some .probeMismatch })) ∧
  ∀ (c m : Nat) (s : State) (e p expected i : Nat) (f : StepFlags) (w : Probe) (rest : List Probe),
    1 ≤ c → c ≤ 10 → 1 ≤ p → p ≤ 4 → s.lamps.circuits.length = 10 →
    let x := s.circuit c
    let n := max s.now e
    x.pulse = some e → x.holder = some ⟨p, expected⟩ → x.waiters = w :: rest → x.requested = false →
    (s.pcr p).stepIndex = some i → s.stepAt i = .step f (.lampProbe c expected) → f.chain = false →
    ∃ t, exec (.probePulseExpiry c m) s = .next t ∧ t.circuit c = { x with
      output := true, onSince := n, holder := some w, waiters := rest, pulse := some (n + 100000) }

/-! ### What every step keeps -/

/-- R44, R46, R51, R71, R97, R150, R152, R160, R168: every step keeps the sizes of the stores, the fallback mark on one valid
record at most, the parameters in their ranges, the budget of 256 steps of a run, a SHORTED circuit's output off, and the
positions that hold or await a circuit's probe distinct ones of 1..4, so at most four. That none of them joins a second time, in
a state that no run reaches too, is how the model keeps the last (log entry 19). -/
def Obligations.StoresAndRangesAreKept : Prop :=
  ∀ s t : State, step s = .next t →
    (s.storesGood → t.storesGood) ∧ (fallbackGood s.profiles → fallbackGood t.profiles) ∧
    (s.params.inRange → t.params.inRange) ∧ (s.budgetGood → t.budgetGood) ∧ (s.shortsOff → t.shortsOff) ∧
    (s.probesGood → t.probesGood)

/-- R51, R168, R169: only LOAD_STEPS, or the bytes of its frame, changes a descriptor, apart from power-on; only SET_PARAM a
parameter, and only LOAD_PROFILE and CLEAR_PROFILE a profile record. A coupling level changes at the coupling inputs' own
commands alone. -/
def Obligations.StoresChangeByTheirOwnRequests : Prop :=
  ∀ (c : Instr) (s t : State), exec c s = .next t → (∀ a b z, c ≠ .powerOn a b z) →
    (∀ b f, c ≠ .cabByteReceived b f) → (∀ f r, c ≠ .cabFrameDropped f r) →
    ((∀ g f ds, c ≠ .loadSteps g f ds) → t.steps = s.steps) ∧
    ((∀ g i v, c ≠ .setParam g i v) → t.params = s.params) ∧
    ((∀ g n r, c ≠ .loadProfile g n r) → (∀ g n, c ≠ .clearProfile g n) → t.profiles = s.profiles) ∧
    ((∀ l, c ≠ .presenceContactChange l) → (∀ l, c ≠ .lockSenseChange l) → c ≠ .presenceDebounceExpiry →
      c ≠ .lockDebounceExpiry → t.coupling = s.coupling)

/-- R180, R181: every step keeps the Reply Queue at 4 frames at most, the Notice Queue at 16, the Report Queue at 32 with no key
twice. -/
def Obligations.QueuesKeepTheirBounds : Prop :=
  ∀ s t : State, s.cab.queuesGood → step s = .next t → t.cab.queuesGood

/-- R98, R99, R103, R116, R154: every step keeps the Function Map, the Report Map and the Load Roll in their order with no key
twice, the Output Point Table with no point twice, the first three of the four within their capacities, and every circuit
target of the map in 1 to 10. The order of the Output Point Table, by position and point, is the model's choice (log entry 5):
R103 gives that table none. -/
def Obligations.TablesKeepOrderAndCapacity : Prop :=
  ∀ s t : State, s.tablesGood → step s = .next t → t.tablesGood

/-- R105, R133, R135, R137, R146, R147: every step keeps the feed record and the duties as their inputs make them: the demand,
the floor and the target, every applied duty, shedding and over-budget; and the shape of the movement states, with the budget
class never above the limit class, FEED_CAP or the zone's limit. In TRIP too a COMFORT record that draws nothing keeps its duty
where no demand is left: the model's choice (log entry 27). -/
def Obligations.FeedFollowsItsInputs : Prop :=
  ∀ s t : State, step s = .next t → (s.dutiesGood → t.dutiesGood) ∧ (s.feedGood → t.feedGood)

/-- R5, R6, R11 to R17, R61: every step keeps the occupied positions 1..k, each other position EMPTY with its record at the EMPTY
values, and the enumerator's cursor, waits and pending checks as its state has them. -/
def Obligations.OccupiedPositionsStayContiguous : Prop :=
  ∀ s t : State, s.chainGood → step s = .next t → t.chainGood

/-- R16, R35, R36, R41, R182: nothing that could happen at once is left waiting by a step: no grant that could be made, no
transaction or break for a free line, no check in DONE, no frame for an idle transmitter. -/
def Obligations.NothingPossibleIsLeftWaiting : Prop :=
  ∀ s t : State, s.settled → step s = .next t → t.settled

/-- What the statements above suppose of a state holds at reset; and reset is a power-on at time 0 with the contact open, the
lock not sensed, the zone NORMAL, nothing sensed by the drivers, no reading counted and no command waiting: the model's
choice of inputs (log entries 1 and 6). -/
def Obligations.ResetIsAGoodPowerOn : Prop :=
  (∀ s : State, s.now = 0 → s.pending = [] → s.lamps.sensed = [0, 0, 0, 0, 0, 0, 0, 0, 0, 0] → s.lamps.readings = 0 →
    exec (.powerOn false false .normal) s = .next State.reset) ∧
  State.reset.storesGood ∧ fallbackGood State.reset.profiles ∧ State.reset.params.inRange ∧ State.reset.budgetGood ∧
  State.reset.shortsOff ∧ State.reset.probesGood ∧ State.reset.cab.queuesGood ∧ State.reset.tablesGood ∧ State.reset.dutiesGood ∧
  State.reset.feedGood ∧ State.reset.chainGood ∧ State.reset.settled
end

