-- ==== Sys2Proof/Laws/State.lean ====
section
/-! SUPPORT. One lemma for each field of `State` under each named update, true by definition: no proof unfolds an update. -/

namespace Sys2Proof.Machine

variable (s : State)

@[simp] theorem State.setPcr_now (p : Nat) (x : Pcr) : (s.setPcr p x).now = s.now := rfl
@[simp] theorem State.setPcr_coupling (p : Nat) (x : Pcr) : (s.setPcr p x).coupling = s.coupling := rfl
@[simp] theorem State.setPcr_enumerator (p : Nat) (x : Pcr) : (s.setPcr p x).enumerator = s.enumerator := rfl
@[simp] theorem State.setPcr_link (p : Nat) (x : Pcr) : (s.setPcr p x).link = s.link := rfl
@[simp] theorem State.setPcr_arbiter (p : Nat) (x : Pcr) : (s.setPcr p x).arbiter = s.arbiter := rfl
@[simp] theorem State.setPcr_profiles (p : Nat) (x : Pcr) : (s.setPcr p x).profiles = s.profiles := rfl
@[simp] theorem State.setPcr_steps (p : Nat) (x : Pcr) : (s.setPcr p x).steps = s.steps := rfl
@[simp] theorem State.setPcr_pcrs (p : Nat) (x : Pcr) : (s.setPcr p x).pcrs = s.pcrs.set p x := rfl
@[simp] theorem State.setPcr_translator (p : Nat) (x : Pcr) : (s.setPcr p x).translator = s.translator := rfl
@[simp] theorem State.setPcr_scanner (p : Nat) (x : Pcr) : (s.setPcr p x).scanner = s.scanner := rfl
@[simp] theorem State.setPcr_feed (p : Nat) (x : Pcr) : (s.setPcr p x).feed = s.feed := rfl
@[simp] theorem State.setPcr_lamps (p : Nat) (x : Pcr) : (s.setPcr p x).lamps = s.lamps := rfl
@[simp] theorem State.setPcr_cab (p : Nat) (x : Pcr) : (s.setPcr p x).cab = s.cab := rfl
@[simp] theorem State.setPcr_params (p : Nat) (x : Pcr) : (s.setPcr p x).params = s.params := rfl
@[simp] theorem State.setPcr_ev (p : Nat) (x : Pcr) : (s.setPcr p x).ev = s.ev := rfl
@[simp] theorem State.setPcr_pending (p : Nat) (x : Pcr) : (s.setPcr p x).pending = s.pending := rfl

@[simp] theorem State.modifyPcr_now (p : Nat) (f : Pcr → Pcr) : (s.modifyPcr p f).now = s.now := rfl
@[simp] theorem State.modifyPcr_coupling (p : Nat) (f : Pcr → Pcr) : (s.modifyPcr p f).coupling = s.coupling := rfl
@[simp] theorem State.modifyPcr_enumerator (p : Nat) (f : Pcr → Pcr) : (s.modifyPcr p f).enumerator = s.enumerator := rfl
@[simp] theorem State.modifyPcr_link (p : Nat) (f : Pcr → Pcr) : (s.modifyPcr p f).link = s.link := rfl
@[simp] theorem State.modifyPcr_arbiter (p : Nat) (f : Pcr → Pcr) : (s.modifyPcr p f).arbiter = s.arbiter := rfl
@[simp] theorem State.modifyPcr_profiles (p : Nat) (f : Pcr → Pcr) : (s.modifyPcr p f).profiles = s.profiles := rfl
@[simp] theorem State.modifyPcr_steps (p : Nat) (f : Pcr → Pcr) : (s.modifyPcr p f).steps = s.steps := rfl
@[simp] theorem State.modifyPcr_pcrs (p : Nat) (f : Pcr → Pcr) : (s.modifyPcr p f).pcrs = s.pcrs.set p (f (s.pcr p)) := rfl
@[simp] theorem State.modifyPcr_translator (p : Nat) (f : Pcr → Pcr) : (s.modifyPcr p f).translator = s.translator := rfl
@[simp] theorem State.modifyPcr_scanner (p : Nat) (f : Pcr → Pcr) : (s.modifyPcr p f).scanner = s.scanner := rfl
@[simp] theorem State.modifyPcr_feed (p : Nat) (f : Pcr → Pcr) : (s.modifyPcr p f).feed = s.feed := rfl
@[simp] theorem State.modifyPcr_lamps (p : Nat) (f : Pcr → Pcr) : (s.modifyPcr p f).lamps = s.lamps := rfl
@[simp] theorem State.modifyPcr_cab (p : Nat) (f : Pcr → Pcr) : (s.modifyPcr p f).cab = s.cab := rfl
@[simp] theorem State.modifyPcr_params (p : Nat) (f : Pcr → Pcr) : (s.modifyPcr p f).params = s.params := rfl
@[simp] theorem State.modifyPcr_ev (p : Nat) (f : Pcr → Pcr) : (s.modifyPcr p f).ev = s.ev := rfl
@[simp] theorem State.modifyPcr_pending (p : Nat) (f : Pcr → Pcr) : (s.modifyPcr p f).pending = s.pending := rfl

@[simp] theorem State.await_now (p : Nat) (ph : StepPhase) : (s.await p ph).now = s.now := rfl
@[simp] theorem State.await_coupling (p : Nat) (ph : StepPhase) : (s.await p ph).coupling = s.coupling := rfl
@[simp] theorem State.await_enumerator (p : Nat) (ph : StepPhase) : (s.await p ph).enumerator = s.enumerator := rfl
@[simp] theorem State.await_link (p : Nat) (ph : StepPhase) : (s.await p ph).link = s.link := rfl
@[simp] theorem State.await_arbiter (p : Nat) (ph : StepPhase) : (s.await p ph).arbiter = s.arbiter := rfl
@[simp] theorem State.await_profiles (p : Nat) (ph : StepPhase) : (s.await p ph).profiles = s.profiles := rfl
@[simp] theorem State.await_steps (p : Nat) (ph : StepPhase) : (s.await p ph).steps = s.steps := rfl
@[simp] theorem State.await_pcrs (p : Nat) (ph : StepPhase) : (s.await p ph).pcrs = s.pcrs.set p { s.pcr p with phase := ph } := rfl
@[simp] theorem State.await_translator (p : Nat) (ph : StepPhase) : (s.await p ph).translator = s.translator := rfl
@[simp] theorem State.await_scanner (p : Nat) (ph : StepPhase) : (s.await p ph).scanner = s.scanner := rfl
@[simp] theorem State.await_feed (p : Nat) (ph : StepPhase) : (s.await p ph).feed = s.feed := rfl
@[simp] theorem State.await_lamps (p : Nat) (ph : StepPhase) : (s.await p ph).lamps = s.lamps := rfl
@[simp] theorem State.await_cab (p : Nat) (ph : StepPhase) : (s.await p ph).cab = s.cab := rfl
@[simp] theorem State.await_params (p : Nat) (ph : StepPhase) : (s.await p ph).params = s.params := rfl
@[simp] theorem State.await_ev (p : Nat) (ph : StepPhase) : (s.await p ph).ev = s.ev := rfl
@[simp] theorem State.await_pending (p : Nat) (ph : StepPhase) : (s.await p ph).pending = s.pending := rfl

@[simp] theorem State.setCircuit_now (c : Nat) (x : Circuit) : (s.setCircuit c x).now = s.now := rfl
@[simp] theorem State.setCircuit_coupling (c : Nat) (x : Circuit) : (s.setCircuit c x).coupling = s.coupling := rfl
@[simp] theorem State.setCircuit_enumerator (c : Nat) (x : Circuit) : (s.setCircuit c x).enumerator = s.enumerator := rfl
@[simp] theorem State.setCircuit_link (c : Nat) (x : Circuit) : (s.setCircuit c x).link = s.link := rfl
@[simp] theorem State.setCircuit_arbiter (c : Nat) (x : Circuit) : (s.setCircuit c x).arbiter = s.arbiter := rfl
@[simp] theorem State.setCircuit_profiles (c : Nat) (x : Circuit) : (s.setCircuit c x).profiles = s.profiles := rfl
@[simp] theorem State.setCircuit_steps (c : Nat) (x : Circuit) : (s.setCircuit c x).steps = s.steps := rfl
@[simp] theorem State.setCircuit_pcrs (c : Nat) (x : Circuit) : (s.setCircuit c x).pcrs = s.pcrs := rfl
@[simp] theorem State.setCircuit_translator (c : Nat) (x : Circuit) : (s.setCircuit c x).translator = s.translator := rfl
@[simp] theorem State.setCircuit_scanner (c : Nat) (x : Circuit) : (s.setCircuit c x).scanner = s.scanner := rfl
@[simp] theorem State.setCircuit_feed (c : Nat) (x : Circuit) : (s.setCircuit c x).feed = s.feed := rfl
@[simp] theorem State.setCircuit_lamps (c : Nat) (x : Circuit) : (s.setCircuit c x).lamps = { s.lamps with circuits := s.lamps.circuits.set (c - 1) x } := rfl
@[simp] theorem State.setCircuit_cab (c : Nat) (x : Circuit) : (s.setCircuit c x).cab = s.cab := rfl
@[simp] theorem State.setCircuit_params (c : Nat) (x : Circuit) : (s.setCircuit c x).params = s.params := rfl
@[simp] theorem State.setCircuit_ev (c : Nat) (x : Circuit) : (s.setCircuit c x).ev = s.ev := rfl
@[simp] theorem State.setCircuit_pending (c : Nat) (x : Circuit) : (s.setCircuit c x).pending = s.pending := rfl

@[simp] theorem State.elapse_now (e : Nat) : (s.elapse e).now = max s.now e := rfl
@[simp] theorem State.elapse_coupling (e : Nat) : (s.elapse e).coupling = s.coupling := rfl
@[simp] theorem State.elapse_enumerator (e : Nat) : (s.elapse e).enumerator = s.enumerator := rfl
@[simp] theorem State.elapse_link (e : Nat) : (s.elapse e).link = s.link := rfl
@[simp] theorem State.elapse_arbiter (e : Nat) : (s.elapse e).arbiter = s.arbiter := rfl
@[simp] theorem State.elapse_profiles (e : Nat) : (s.elapse e).profiles = s.profiles := rfl
@[simp] theorem State.elapse_steps (e : Nat) : (s.elapse e).steps = s.steps := rfl
@[simp] theorem State.elapse_pcrs (e : Nat) : (s.elapse e).pcrs = s.pcrs := rfl
@[simp] theorem State.elapse_translator (e : Nat) : (s.elapse e).translator = s.translator := rfl
@[simp] theorem State.elapse_scanner (e : Nat) : (s.elapse e).scanner = s.scanner := rfl
@[simp] theorem State.elapse_feed (e : Nat) : (s.elapse e).feed = s.feed := rfl
@[simp] theorem State.elapse_lamps (e : Nat) : (s.elapse e).lamps = s.lamps := rfl
@[simp] theorem State.elapse_cab (e : Nat) : (s.elapse e).cab = s.cab := rfl
@[simp] theorem State.elapse_params (e : Nat) : (s.elapse e).params = s.params := rfl
@[simp] theorem State.elapse_ev (e : Nat) : (s.elapse e).ev = s.ev := rfl
@[simp] theorem State.elapse_pending (e : Nat) : (s.elapse e).pending = s.pending := rfl

@[simp] theorem State.hand_now (j : Job) : (s.hand j).now = s.now := rfl
@[simp] theorem State.hand_coupling (j : Job) : (s.hand j).coupling = s.coupling := rfl
@[simp] theorem State.hand_enumerator (j : Job) : (s.hand j).enumerator = s.enumerator := rfl
@[simp] theorem State.hand_link (j : Job) : (s.hand j).link = s.link := rfl
@[simp] theorem State.hand_arbiter (j : Job) : (s.hand j).arbiter = s.arbiter := rfl
@[simp] theorem State.hand_profiles (j : Job) : (s.hand j).profiles = s.profiles := rfl
@[simp] theorem State.hand_steps (j : Job) : (s.hand j).steps = s.steps := rfl
@[simp] theorem State.hand_pcrs (j : Job) : (s.hand j).pcrs = s.pcrs := rfl
@[simp] theorem State.hand_translator (j : Job) : (s.hand j).translator = s.translator := rfl
@[simp] theorem State.hand_scanner (j : Job) : (s.hand j).scanner = s.scanner := rfl
@[simp] theorem State.hand_feed (j : Job) : (s.hand j).feed = s.feed := rfl
@[simp] theorem State.hand_lamps (j : Job) : (s.hand j).lamps = s.lamps := rfl
@[simp] theorem State.hand_cab (j : Job) : (s.hand j).cab = s.cab := rfl
@[simp] theorem State.hand_params (j : Job) : (s.hand j).params = s.params := rfl
@[simp] theorem State.hand_ev (j : Job) : (s.hand j).ev = { s.ev with jobs := s.ev.jobs ++ [j] } := rfl
@[simp] theorem State.hand_pending (j : Job) : (s.hand j).pending = s.pending := rfl

@[simp] theorem State.handFirst_now (j : Job) : (s.handFirst j).now = s.now := rfl
@[simp] theorem State.handFirst_coupling (j : Job) : (s.handFirst j).coupling = s.coupling := rfl
@[simp] theorem State.handFirst_enumerator (j : Job) : (s.handFirst j).enumerator = s.enumerator := rfl
@[simp] theorem State.handFirst_link (j : Job) : (s.handFirst j).link = s.link := rfl
@[simp] theorem State.handFirst_arbiter (j : Job) : (s.handFirst j).arbiter = s.arbiter := rfl
@[simp] theorem State.handFirst_profiles (j : Job) : (s.handFirst j).profiles = s.profiles := rfl
@[simp] theorem State.handFirst_steps (j : Job) : (s.handFirst j).steps = s.steps := rfl
@[simp] theorem State.handFirst_pcrs (j : Job) : (s.handFirst j).pcrs = s.pcrs := rfl
@[simp] theorem State.handFirst_translator (j : Job) : (s.handFirst j).translator = s.translator := rfl
@[simp] theorem State.handFirst_scanner (j : Job) : (s.handFirst j).scanner = s.scanner := rfl
@[simp] theorem State.handFirst_feed (j : Job) : (s.handFirst j).feed = s.feed := rfl
@[simp] theorem State.handFirst_lamps (j : Job) : (s.handFirst j).lamps = s.lamps := rfl
@[simp] theorem State.handFirst_cab (j : Job) : (s.handFirst j).cab = s.cab := rfl
@[simp] theorem State.handFirst_params (j : Job) : (s.handFirst j).params = s.params := rfl
@[simp] theorem State.handFirst_ev (j : Job) : (s.handFirst j).ev = { s.ev with jobs := j :: s.ev.jobs } := rfl
@[simp] theorem State.handFirst_pending (j : Job) : (s.handFirst j).pending = s.pending := rfl

@[simp] theorem State.note_now (n : Notice) : (s.note n).now = s.now := rfl
@[simp] theorem State.note_coupling (n : Notice) : (s.note n).coupling = s.coupling := rfl
@[simp] theorem State.note_enumerator (n : Notice) : (s.note n).enumerator = s.enumerator := rfl
@[simp] theorem State.note_link (n : Notice) : (s.note n).link = s.link := rfl
@[simp] theorem State.note_arbiter (n : Notice) : (s.note n).arbiter = s.arbiter := rfl
@[simp] theorem State.note_profiles (n : Notice) : (s.note n).profiles = s.profiles := rfl
@[simp] theorem State.note_steps (n : Notice) : (s.note n).steps = s.steps := rfl
@[simp] theorem State.note_pcrs (n : Notice) : (s.note n).pcrs = s.pcrs := rfl
@[simp] theorem State.note_translator (n : Notice) : (s.note n).translator = s.translator := rfl
@[simp] theorem State.note_scanner (n : Notice) : (s.note n).scanner = s.scanner := rfl
@[simp] theorem State.note_feed (n : Notice) : (s.note n).feed = s.feed := rfl
@[simp] theorem State.note_lamps (n : Notice) : (s.note n).lamps = s.lamps := rfl
@[simp] theorem State.note_cab (n : Notice) : (s.note n).cab = s.cab := rfl
@[simp] theorem State.note_params (n : Notice) : (s.note n).params = s.params := rfl
@[simp] theorem State.note_ev (n : Notice) : (s.note n).ev = { s.ev with notices := s.ev.notices ++ [.other n] } := rfl
@[simp] theorem State.note_pending (n : Notice) : (s.note n).pending = s.pending := rfl

@[simp] theorem State.noteEngine_now (p : Nat) (n : Notice) : (s.noteEngine p n).now = s.now := rfl
@[simp] theorem State.noteEngine_coupling (p : Nat) (n : Notice) : (s.noteEngine p n).coupling = s.coupling := rfl
@[simp] theorem State.noteEngine_enumerator (p : Nat) (n : Notice) : (s.noteEngine p n).enumerator = s.enumerator := rfl
@[simp] theorem State.noteEngine_link (p : Nat) (n : Notice) : (s.noteEngine p n).link = s.link := rfl
@[simp] theorem State.noteEngine_arbiter (p : Nat) (n : Notice) : (s.noteEngine p n).arbiter = s.arbiter := rfl
@[simp] theorem State.noteEngine_profiles (p : Nat) (n : Notice) : (s.noteEngine p n).profiles = s.profiles := rfl
@[simp] theorem State.noteEngine_steps (p : Nat) (n : Notice) : (s.noteEngine p n).steps = s.steps := rfl
@[simp] theorem State.noteEngine_pcrs (p : Nat) (n : Notice) : (s.noteEngine p n).pcrs = s.pcrs := rfl
@[simp] theorem State.noteEngine_translator (p : Nat) (n : Notice) : (s.noteEngine p n).translator = s.translator := rfl
@[simp] theorem State.noteEngine_scanner (p : Nat) (n : Notice) : (s.noteEngine p n).scanner = s.scanner := rfl
@[simp] theorem State.noteEngine_feed (p : Nat) (n : Notice) : (s.noteEngine p n).feed = s.feed := rfl
@[simp] theorem State.noteEngine_lamps (p : Nat) (n : Notice) : (s.noteEngine p n).lamps = s.lamps := rfl
@[simp] theorem State.noteEngine_cab (p : Nat) (n : Notice) : (s.noteEngine p n).cab = s.cab := rfl
@[simp] theorem State.noteEngine_params (p : Nat) (n : Notice) : (s.noteEngine p n).params = s.params := rfl
@[simp] theorem State.noteEngine_ev (p : Nat) (n : Notice) : (s.noteEngine p n).ev = { s.ev with notices := insertBy (EventNotice.engineAfter p) (.engine p n) s.ev.notices } := rfl
@[simp] theorem State.noteEngine_pending (p : Nat) (n : Notice) : (s.noteEngine p n).pending = s.pending := rfl

@[simp] theorem State.markFeedPlace_now : (s.markFeedPlace).now = s.now := rfl
@[simp] theorem State.markFeedPlace_coupling : (s.markFeedPlace).coupling = s.coupling := rfl
@[simp] theorem State.markFeedPlace_enumerator : (s.markFeedPlace).enumerator = s.enumerator := rfl
@[simp] theorem State.markFeedPlace_link : (s.markFeedPlace).link = s.link := rfl
@[simp] theorem State.markFeedPlace_arbiter : (s.markFeedPlace).arbiter = s.arbiter := rfl
@[simp] theorem State.markFeedPlace_profiles : (s.markFeedPlace).profiles = s.profiles := rfl
@[simp] theorem State.markFeedPlace_steps : (s.markFeedPlace).steps = s.steps := rfl
@[simp] theorem State.markFeedPlace_pcrs : (s.markFeedPlace).pcrs = s.pcrs := rfl
@[simp] theorem State.markFeedPlace_translator : (s.markFeedPlace).translator = s.translator := rfl
@[simp] theorem State.markFeedPlace_scanner : (s.markFeedPlace).scanner = s.scanner := rfl
@[simp] theorem State.markFeedPlace_feed : (s.markFeedPlace).feed = s.feed := rfl
@[simp] theorem State.markFeedPlace_lamps : (s.markFeedPlace).lamps = s.lamps := rfl
@[simp] theorem State.markFeedPlace_cab : (s.markFeedPlace).cab = s.cab := rfl
@[simp] theorem State.markFeedPlace_params : (s.markFeedPlace).params = s.params := rfl
@[simp] theorem State.markFeedPlace_ev : (s.markFeedPlace).ev = { s.ev with notices := s.ev.notices ++ [.feedPlace] } := rfl
@[simp] theorem State.markFeedPlace_pending : (s.markFeedPlace).pending = s.pending := rfl

@[simp] theorem State.openEvent_now : (s.openEvent).now = s.now := rfl
@[simp] theorem State.openEvent_coupling : (s.openEvent).coupling = s.coupling := rfl
@[simp] theorem State.openEvent_enumerator : (s.openEvent).enumerator = s.enumerator := rfl
@[simp] theorem State.openEvent_link : (s.openEvent).link = s.link := rfl
@[simp] theorem State.openEvent_arbiter : (s.openEvent).arbiter = s.arbiter := rfl
@[simp] theorem State.openEvent_profiles : (s.openEvent).profiles = s.profiles := rfl
@[simp] theorem State.openEvent_steps : (s.openEvent).steps = s.steps := rfl
@[simp] theorem State.openEvent_pcrs : (s.openEvent).pcrs = s.pcrs := rfl
@[simp] theorem State.openEvent_translator : (s.openEvent).translator = s.translator := rfl
@[simp] theorem State.openEvent_scanner : (s.openEvent).scanner = s.scanner := rfl
@[simp] theorem State.openEvent_feed : (s.openEvent).feed = s.feed := rfl
@[simp] theorem State.openEvent_lamps : (s.openEvent).lamps = s.lamps := rfl
@[simp] theorem State.openEvent_cab : (s.openEvent).cab = s.cab := rfl
@[simp] theorem State.openEvent_params : (s.openEvent).params = s.params := rfl
@[simp] theorem State.openEvent_ev : (s.openEvent).ev = { EventWork.none with feedBefore := some s.feed.shown } := rfl
@[simp] theorem State.openEvent_pending : (s.openEvent).pending = s.pending := rfl

@[simp] theorem State.modifyCab_now (f : CabPort → CabPort) : (s.modifyCab f).now = s.now := rfl
@[simp] theorem State.modifyCab_coupling (f : CabPort → CabPort) : (s.modifyCab f).coupling = s.coupling := rfl
@[simp] theorem State.modifyCab_enumerator (f : CabPort → CabPort) : (s.modifyCab f).enumerator = s.enumerator := rfl
@[simp] theorem State.modifyCab_link (f : CabPort → CabPort) : (s.modifyCab f).link = s.link := rfl
@[simp] theorem State.modifyCab_arbiter (f : CabPort → CabPort) : (s.modifyCab f).arbiter = s.arbiter := rfl
@[simp] theorem State.modifyCab_profiles (f : CabPort → CabPort) : (s.modifyCab f).profiles = s.profiles := rfl
@[simp] theorem State.modifyCab_steps (f : CabPort → CabPort) : (s.modifyCab f).steps = s.steps := rfl
@[simp] theorem State.modifyCab_pcrs (f : CabPort → CabPort) : (s.modifyCab f).pcrs = s.pcrs := rfl
@[simp] theorem State.modifyCab_translator (f : CabPort → CabPort) : (s.modifyCab f).translator = s.translator := rfl
@[simp] theorem State.modifyCab_scanner (f : CabPort → CabPort) : (s.modifyCab f).scanner = s.scanner := rfl
@[simp] theorem State.modifyCab_feed (f : CabPort → CabPort) : (s.modifyCab f).feed = s.feed := rfl
@[simp] theorem State.modifyCab_lamps (f : CabPort → CabPort) : (s.modifyCab f).lamps = s.lamps := rfl
@[simp] theorem State.modifyCab_cab (f : CabPort → CabPort) : (s.modifyCab f).cab = f s.cab := rfl
@[simp] theorem State.modifyCab_params (f : CabPort → CabPort) : (s.modifyCab f).params = s.params := rfl
@[simp] theorem State.modifyCab_ev (f : CabPort → CabPort) : (s.modifyCab f).ev = s.ev := rfl
@[simp] theorem State.modifyCab_pending (f : CabPort → CabPort) : (s.modifyCab f).pending = s.pending := rfl

@[simp] theorem State.transmit_now : (s.transmit).now = s.now := rfl
@[simp] theorem State.transmit_coupling : (s.transmit).coupling = s.coupling := rfl
@[simp] theorem State.transmit_enumerator : (s.transmit).enumerator = s.enumerator := rfl
@[simp] theorem State.transmit_link : (s.transmit).link = s.link := rfl
@[simp] theorem State.transmit_arbiter : (s.transmit).arbiter = s.arbiter := rfl
@[simp] theorem State.transmit_profiles : (s.transmit).profiles = s.profiles := rfl
@[simp] theorem State.transmit_steps : (s.transmit).steps = s.steps := rfl
@[simp] theorem State.transmit_pcrs : (s.transmit).pcrs = s.pcrs := rfl
@[simp] theorem State.transmit_translator : (s.transmit).translator = s.translator := rfl
@[simp] theorem State.transmit_scanner : (s.transmit).scanner = s.scanner := rfl
@[simp] theorem State.transmit_feed : (s.transmit).feed = s.feed := rfl
@[simp] theorem State.transmit_lamps : (s.transmit).lamps = s.lamps := rfl
@[simp] theorem State.transmit_cab : (s.transmit).cab = s.cab.take := rfl
@[simp] theorem State.transmit_params : (s.transmit).params = s.params := rfl
@[simp] theorem State.transmit_ev : (s.transmit).ev = s.ev := rfl
@[simp] theorem State.transmit_pending : (s.transmit).pending = s.pending := rfl

@[simp] theorem State.placeReport_now (r : Report) : (s.placeReport r).now = s.now := rfl
@[simp] theorem State.placeReport_coupling (r : Report) : (s.placeReport r).coupling = s.coupling := rfl
@[simp] theorem State.placeReport_enumerator (r : Report) : (s.placeReport r).enumerator = s.enumerator := rfl
@[simp] theorem State.placeReport_link (r : Report) : (s.placeReport r).link = s.link := rfl
@[simp] theorem State.placeReport_arbiter (r : Report) : (s.placeReport r).arbiter = s.arbiter := rfl
@[simp] theorem State.placeReport_profiles (r : Report) : (s.placeReport r).profiles = s.profiles := rfl
@[simp] theorem State.placeReport_steps (r : Report) : (s.placeReport r).steps = s.steps := rfl
@[simp] theorem State.placeReport_pcrs (r : Report) : (s.placeReport r).pcrs = s.pcrs := rfl
@[simp] theorem State.placeReport_translator (r : Report) : (s.placeReport r).translator = s.translator := rfl
@[simp] theorem State.placeReport_scanner (r : Report) : (s.placeReport r).scanner = s.scanner := rfl
@[simp] theorem State.placeReport_feed (r : Report) : (s.placeReport r).feed = s.feed := rfl
@[simp] theorem State.placeReport_lamps (r : Report) : (s.placeReport r).lamps = s.lamps := rfl
@[simp] theorem State.placeReport_cab (r : Report) : (s.placeReport r).cab = s.cab.placeReport r := rfl
@[simp] theorem State.placeReport_params (r : Report) : (s.placeReport r).params = s.params := rfl
@[simp] theorem State.placeReport_ev (r : Report) : (s.placeReport r).ev = s.ev := rfl
@[simp] theorem State.placeReport_pending (r : Report) : (s.placeReport r).pending = s.pending := rfl

@[simp] theorem State.placeNotices_now : (s.placeNotices).now = s.now := rfl
@[simp] theorem State.placeNotices_coupling : (s.placeNotices).coupling = s.coupling := rfl
@[simp] theorem State.placeNotices_enumerator : (s.placeNotices).enumerator = s.enumerator := rfl
@[simp] theorem State.placeNotices_link : (s.placeNotices).link = s.link := rfl
@[simp] theorem State.placeNotices_arbiter : (s.placeNotices).arbiter = s.arbiter := rfl
@[simp] theorem State.placeNotices_profiles : (s.placeNotices).profiles = s.profiles := rfl
@[simp] theorem State.placeNotices_steps : (s.placeNotices).steps = s.steps := rfl
@[simp] theorem State.placeNotices_pcrs : (s.placeNotices).pcrs = s.pcrs := rfl
@[simp] theorem State.placeNotices_translator : (s.placeNotices).translator = s.translator := rfl
@[simp] theorem State.placeNotices_scanner : (s.placeNotices).scanner = s.scanner := rfl
@[simp] theorem State.placeNotices_feed : (s.placeNotices).feed = s.feed := rfl
@[simp] theorem State.placeNotices_lamps : (s.placeNotices).lamps = s.lamps := rfl
@[simp] theorem State.placeNotices_cab : (s.placeNotices).cab = (eventNotices s.ev.notices s.feedNotice).foldl CabPort.placeNotice s.cab := rfl
@[simp] theorem State.placeNotices_params : (s.placeNotices).params = s.params := rfl
@[simp] theorem State.placeNotices_ev : (s.placeNotices).ev = EventWork.none := rfl
@[simp] theorem State.placeNotices_pending : (s.placeNotices).pending = s.pending := rfl

@[simp] theorem State.modifyOut_now (k : PointKey) (f : OutRec → OutRec) : (s.modifyOut k f).now = s.now := rfl
@[simp] theorem State.modifyOut_coupling (k : PointKey) (f : OutRec → OutRec) : (s.modifyOut k f).coupling = s.coupling := rfl
@[simp] theorem State.modifyOut_enumerator (k : PointKey) (f : OutRec → OutRec) : (s.modifyOut k f).enumerator = s.enumerator := rfl
@[simp] theorem State.modifyOut_link (k : PointKey) (f : OutRec → OutRec) : (s.modifyOut k f).link = s.link := rfl
@[simp] theorem State.modifyOut_arbiter (k : PointKey) (f : OutRec → OutRec) : (s.modifyOut k f).arbiter = s.arbiter := rfl
@[simp] theorem State.modifyOut_profiles (k : PointKey) (f : OutRec → OutRec) : (s.modifyOut k f).profiles = s.profiles := rfl
@[simp] theorem State.modifyOut_steps (k : PointKey) (f : OutRec → OutRec) : (s.modifyOut k f).steps = s.steps := rfl
@[simp] theorem State.modifyOut_pcrs (k : PointKey) (f : OutRec → OutRec) : (s.modifyOut k f).pcrs = s.pcrs := rfl
@[simp] theorem State.modifyOut_translator (k : PointKey) (f : OutRec → OutRec) : (s.modifyOut k f).translator = { s.translator with points := modifyFirst (fun r => r.key == k) f s.translator.points } := rfl
@[simp] theorem State.modifyOut_scanner (k : PointKey) (f : OutRec → OutRec) : (s.modifyOut k f).scanner = s.scanner := rfl
@[simp] theorem State.modifyOut_feed (k : PointKey) (f : OutRec → OutRec) : (s.modifyOut k f).feed = s.feed := rfl
@[simp] theorem State.modifyOut_lamps (k : PointKey) (f : OutRec → OutRec) : (s.modifyOut k f).lamps = s.lamps := rfl
@[simp] theorem State.modifyOut_cab (k : PointKey) (f : OutRec → OutRec) : (s.modifyOut k f).cab = s.cab := rfl
@[simp] theorem State.modifyOut_params (k : PointKey) (f : OutRec → OutRec) : (s.modifyOut k f).params = s.params := rfl
@[simp] theorem State.modifyOut_ev (k : PointKey) (f : OutRec → OutRec) : (s.modifyOut k f).ev = s.ev := rfl
@[simp] theorem State.modifyOut_pending (k : PointKey) (f : OutRec → OutRec) : (s.modifyOut k f).pending = s.pending := rfl

@[simp] theorem State.evaluateOutputs_now : (s.evaluateOutputs).now = s.now := rfl
@[simp] theorem State.evaluateOutputs_coupling : (s.evaluateOutputs).coupling = s.coupling := rfl
@[simp] theorem State.evaluateOutputs_enumerator : (s.evaluateOutputs).enumerator = s.enumerator := rfl
@[simp] theorem State.evaluateOutputs_link : (s.evaluateOutputs).link = s.link := rfl
@[simp] theorem State.evaluateOutputs_arbiter : (s.evaluateOutputs).arbiter = s.arbiter := rfl
@[simp] theorem State.evaluateOutputs_profiles : (s.evaluateOutputs).profiles = s.profiles := rfl
@[simp] theorem State.evaluateOutputs_steps : (s.evaluateOutputs).steps = s.steps := rfl
@[simp] theorem State.evaluateOutputs_pcrs : (s.evaluateOutputs).pcrs = s.pcrs := rfl
@[simp] theorem State.evaluateOutputs_translator : (s.evaluateOutputs).translator = s.translator.evaluate := rfl
@[simp] theorem State.evaluateOutputs_scanner : (s.evaluateOutputs).scanner = s.scanner := rfl
@[simp] theorem State.evaluateOutputs_feed : (s.evaluateOutputs).feed = s.feed := rfl
@[simp] theorem State.evaluateOutputs_lamps : (s.evaluateOutputs).lamps = s.lamps := rfl
@[simp] theorem State.evaluateOutputs_cab : (s.evaluateOutputs).cab = s.cab := rfl
@[simp] theorem State.evaluateOutputs_params : (s.evaluateOutputs).params = s.params := rfl
@[simp] theorem State.evaluateOutputs_ev : (s.evaluateOutputs).ev = s.ev := rfl
@[simp] theorem State.evaluateOutputs_pending : (s.evaluateOutputs).pending = s.pending := rfl

@[simp] theorem State.modifyFeed_now (f : Feed → Feed) : (s.modifyFeed f).now = s.now := rfl
@[simp] theorem State.modifyFeed_coupling (f : Feed → Feed) : (s.modifyFeed f).coupling = s.coupling := rfl
@[simp] theorem State.modifyFeed_enumerator (f : Feed → Feed) : (s.modifyFeed f).enumerator = s.enumerator := rfl
@[simp] theorem State.modifyFeed_link (f : Feed → Feed) : (s.modifyFeed f).link = s.link := rfl
@[simp] theorem State.modifyFeed_arbiter (f : Feed → Feed) : (s.modifyFeed f).arbiter = s.arbiter := rfl
@[simp] theorem State.modifyFeed_profiles (f : Feed → Feed) : (s.modifyFeed f).profiles = s.profiles := rfl
@[simp] theorem State.modifyFeed_steps (f : Feed → Feed) : (s.modifyFeed f).steps = s.steps := rfl
@[simp] theorem State.modifyFeed_pcrs (f : Feed → Feed) : (s.modifyFeed f).pcrs = s.pcrs := rfl
@[simp] theorem State.modifyFeed_translator (f : Feed → Feed) : (s.modifyFeed f).translator = s.translator := rfl
@[simp] theorem State.modifyFeed_scanner (f : Feed → Feed) : (s.modifyFeed f).scanner = s.scanner := rfl
@[simp] theorem State.modifyFeed_feed (f : Feed → Feed) : (s.modifyFeed f).feed = f s.feed := rfl
@[simp] theorem State.modifyFeed_lamps (f : Feed → Feed) : (s.modifyFeed f).lamps = s.lamps := rfl
@[simp] theorem State.modifyFeed_cab (f : Feed → Feed) : (s.modifyFeed f).cab = s.cab := rfl
@[simp] theorem State.modifyFeed_params (f : Feed → Feed) : (s.modifyFeed f).params = s.params := rfl
@[simp] theorem State.modifyFeed_ev (f : Feed → Feed) : (s.modifyFeed f).ev = s.ev := rfl
@[simp] theorem State.modifyFeed_pending (f : Feed → Feed) : (s.modifyFeed f).pending = s.pending := rfl

@[simp] theorem State.modifyScanner_now (f : Scanner → Scanner) : (s.modifyScanner f).now = s.now := rfl
@[simp] theorem State.modifyScanner_coupling (f : Scanner → Scanner) : (s.modifyScanner f).coupling = s.coupling := rfl
@[simp] theorem State.modifyScanner_enumerator (f : Scanner → Scanner) : (s.modifyScanner f).enumerator = s.enumerator := rfl
@[simp] theorem State.modifyScanner_link (f : Scanner → Scanner) : (s.modifyScanner f).link = s.link := rfl
@[simp] theorem State.modifyScanner_arbiter (f : Scanner → Scanner) : (s.modifyScanner f).arbiter = s.arbiter := rfl
@[simp] theorem State.modifyScanner_profiles (f : Scanner → Scanner) : (s.modifyScanner f).profiles = s.profiles := rfl
@[simp] theorem State.modifyScanner_steps (f : Scanner → Scanner) : (s.modifyScanner f).steps = s.steps := rfl
@[simp] theorem State.modifyScanner_pcrs (f : Scanner → Scanner) : (s.modifyScanner f).pcrs = s.pcrs := rfl
@[simp] theorem State.modifyScanner_translator (f : Scanner → Scanner) : (s.modifyScanner f).translator = s.translator := rfl
@[simp] theorem State.modifyScanner_scanner (f : Scanner → Scanner) : (s.modifyScanner f).scanner = f s.scanner := rfl
@[simp] theorem State.modifyScanner_feed (f : Scanner → Scanner) : (s.modifyScanner f).feed = s.feed := rfl
@[simp] theorem State.modifyScanner_lamps (f : Scanner → Scanner) : (s.modifyScanner f).lamps = s.lamps := rfl
@[simp] theorem State.modifyScanner_cab (f : Scanner → Scanner) : (s.modifyScanner f).cab = s.cab := rfl
@[simp] theorem State.modifyScanner_params (f : Scanner → Scanner) : (s.modifyScanner f).params = s.params := rfl
@[simp] theorem State.modifyScanner_ev (f : Scanner → Scanner) : (s.modifyScanner f).ev = s.ev := rfl
@[simp] theorem State.modifyScanner_pending (f : Scanner → Scanner) : (s.modifyScanner f).pending = s.pending := rfl

@[simp] theorem State.modifyEnum_now (f : Enumerator → Enumerator) : (s.modifyEnum f).now = s.now := rfl
@[simp] theorem State.modifyEnum_coupling (f : Enumerator → Enumerator) : (s.modifyEnum f).coupling = s.coupling := rfl
@[simp] theorem State.modifyEnum_enumerator (f : Enumerator → Enumerator) : (s.modifyEnum f).enumerator = f s.enumerator := rfl
@[simp] theorem State.modifyEnum_link (f : Enumerator → Enumerator) : (s.modifyEnum f).link = s.link := rfl
@[simp] theorem State.modifyEnum_arbiter (f : Enumerator → Enumerator) : (s.modifyEnum f).arbiter = s.arbiter := rfl
@[simp] theorem State.modifyEnum_profiles (f : Enumerator → Enumerator) : (s.modifyEnum f).profiles = s.profiles := rfl
@[simp] theorem State.modifyEnum_steps (f : Enumerator → Enumerator) : (s.modifyEnum f).steps = s.steps := rfl
@[simp] theorem State.modifyEnum_pcrs (f : Enumerator → Enumerator) : (s.modifyEnum f).pcrs = s.pcrs := rfl
@[simp] theorem State.modifyEnum_translator (f : Enumerator → Enumerator) : (s.modifyEnum f).translator = s.translator := rfl
@[simp] theorem State.modifyEnum_scanner (f : Enumerator → Enumerator) : (s.modifyEnum f).scanner = s.scanner := rfl
@[simp] theorem State.modifyEnum_feed (f : Enumerator → Enumerator) : (s.modifyEnum f).feed = s.feed := rfl
@[simp] theorem State.modifyEnum_lamps (f : Enumerator → Enumerator) : (s.modifyEnum f).lamps = s.lamps := rfl
@[simp] theorem State.modifyEnum_cab (f : Enumerator → Enumerator) : (s.modifyEnum f).cab = s.cab := rfl
@[simp] theorem State.modifyEnum_params (f : Enumerator → Enumerator) : (s.modifyEnum f).params = s.params := rfl
@[simp] theorem State.modifyEnum_ev (f : Enumerator → Enumerator) : (s.modifyEnum f).ev = s.ev := rfl
@[simp] theorem State.modifyEnum_pending (f : Enumerator → Enumerator) : (s.modifyEnum f).pending = s.pending := rfl

@[simp] theorem State.modifyLink_now (f : Link → Link) : (s.modifyLink f).now = s.now := rfl
@[simp] theorem State.modifyLink_coupling (f : Link → Link) : (s.modifyLink f).coupling = s.coupling := rfl
@[simp] theorem State.modifyLink_enumerator (f : Link → Link) : (s.modifyLink f).enumerator = s.enumerator := rfl
@[simp] theorem State.modifyLink_link (f : Link → Link) : (s.modifyLink f).link = f s.link := rfl
@[simp] theorem State.modifyLink_arbiter (f : Link → Link) : (s.modifyLink f).arbiter = s.arbiter := rfl
@[simp] theorem State.modifyLink_profiles (f : Link → Link) : (s.modifyLink f).profiles = s.profiles := rfl
@[simp] theorem State.modifyLink_steps (f : Link → Link) : (s.modifyLink f).steps = s.steps := rfl
@[simp] theorem State.modifyLink_pcrs (f : Link → Link) : (s.modifyLink f).pcrs = s.pcrs := rfl
@[simp] theorem State.modifyLink_translator (f : Link → Link) : (s.modifyLink f).translator = s.translator := rfl
@[simp] theorem State.modifyLink_scanner (f : Link → Link) : (s.modifyLink f).scanner = s.scanner := rfl
@[simp] theorem State.modifyLink_feed (f : Link → Link) : (s.modifyLink f).feed = s.feed := rfl
@[simp] theorem State.modifyLink_lamps (f : Link → Link) : (s.modifyLink f).lamps = s.lamps := rfl
@[simp] theorem State.modifyLink_cab (f : Link → Link) : (s.modifyLink f).cab = s.cab := rfl
@[simp] theorem State.modifyLink_params (f : Link → Link) : (s.modifyLink f).params = s.params := rfl
@[simp] theorem State.modifyLink_ev (f : Link → Link) : (s.modifyLink f).ev = s.ev := rfl
@[simp] theorem State.modifyLink_pending (f : Link → Link) : (s.modifyLink f).pending = s.pending := rfl

@[simp] theorem State.modifyCoupling_now (f : Coupling → Coupling) : (s.modifyCoupling f).now = s.now := rfl
@[simp] theorem State.modifyCoupling_coupling (f : Coupling → Coupling) : (s.modifyCoupling f).coupling = f s.coupling := rfl
@[simp] theorem State.modifyCoupling_enumerator (f : Coupling → Coupling) : (s.modifyCoupling f).enumerator = s.enumerator := rfl
@[simp] theorem State.modifyCoupling_link (f : Coupling → Coupling) : (s.modifyCoupling f).link = s.link := rfl
@[simp] theorem State.modifyCoupling_arbiter (f : Coupling → Coupling) : (s.modifyCoupling f).arbiter = s.arbiter := rfl
@[simp] theorem State.modifyCoupling_profiles (f : Coupling → Coupling) : (s.modifyCoupling f).profiles = s.profiles := rfl
@[simp] theorem State.modifyCoupling_steps (f : Coupling → Coupling) : (s.modifyCoupling f).steps = s.steps := rfl
@[simp] theorem State.modifyCoupling_pcrs (f : Coupling → Coupling) : (s.modifyCoupling f).pcrs = s.pcrs := rfl
@[simp] theorem State.modifyCoupling_translator (f : Coupling → Coupling) : (s.modifyCoupling f).translator = s.translator := rfl
@[simp] theorem State.modifyCoupling_scanner (f : Coupling → Coupling) : (s.modifyCoupling f).scanner = s.scanner := rfl
@[simp] theorem State.modifyCoupling_feed (f : Coupling → Coupling) : (s.modifyCoupling f).feed = s.feed := rfl
@[simp] theorem State.modifyCoupling_lamps (f : Coupling → Coupling) : (s.modifyCoupling f).lamps = s.lamps := rfl
@[simp] theorem State.modifyCoupling_cab (f : Coupling → Coupling) : (s.modifyCoupling f).cab = s.cab := rfl
@[simp] theorem State.modifyCoupling_params (f : Coupling → Coupling) : (s.modifyCoupling f).params = s.params := rfl
@[simp] theorem State.modifyCoupling_ev (f : Coupling → Coupling) : (s.modifyCoupling f).ev = s.ev := rfl
@[simp] theorem State.modifyCoupling_pending (f : Coupling → Coupling) : (s.modifyCoupling f).pending = s.pending := rfl

@[simp] theorem State.setLine_now (l : OnLine) : (s.setLine l).now = s.now := rfl
@[simp] theorem State.setLine_coupling (l : OnLine) : (s.setLine l).coupling = s.coupling := rfl
@[simp] theorem State.setLine_enumerator (l : OnLine) : (s.setLine l).enumerator = s.enumerator := rfl
@[simp] theorem State.setLine_link (l : OnLine) : (s.setLine l).link = { s.link with line := some l } := rfl
@[simp] theorem State.setLine_arbiter (l : OnLine) : (s.setLine l).arbiter = s.arbiter := rfl
@[simp] theorem State.setLine_profiles (l : OnLine) : (s.setLine l).profiles = s.profiles := rfl
@[simp] theorem State.setLine_steps (l : OnLine) : (s.setLine l).steps = s.steps := rfl
@[simp] theorem State.setLine_pcrs (l : OnLine) : (s.setLine l).pcrs = s.pcrs := rfl
@[simp] theorem State.setLine_translator (l : OnLine) : (s.setLine l).translator = s.translator := rfl
@[simp] theorem State.setLine_scanner (l : OnLine) : (s.setLine l).scanner = s.scanner := rfl
@[simp] theorem State.setLine_feed (l : OnLine) : (s.setLine l).feed = s.feed := rfl
@[simp] theorem State.setLine_lamps (l : OnLine) : (s.setLine l).lamps = s.lamps := rfl
@[simp] theorem State.setLine_cab (l : OnLine) : (s.setLine l).cab = s.cab := rfl
@[simp] theorem State.setLine_params (l : OnLine) : (s.setLine l).params = s.params := rfl
@[simp] theorem State.setLine_ev (l : OnLine) : (s.setLine l).ev = s.ev := rfl
@[simp] theorem State.setLine_pending (l : OnLine) : (s.setLine l).pending = s.pending := rfl

@[simp] theorem State.clearLine_now : (s.clearLine).now = s.now := rfl
@[simp] theorem State.clearLine_coupling : (s.clearLine).coupling = s.coupling := rfl
@[simp] theorem State.clearLine_enumerator : (s.clearLine).enumerator = s.enumerator := rfl
@[simp] theorem State.clearLine_link : (s.clearLine).link = { s.link with line := none, gap := some (s.now + s.link.bitTimes gapBits) } := rfl
@[simp] theorem State.clearLine_arbiter : (s.clearLine).arbiter = s.arbiter := rfl
@[simp] theorem State.clearLine_profiles : (s.clearLine).profiles = s.profiles := rfl
@[simp] theorem State.clearLine_steps : (s.clearLine).steps = s.steps := rfl
@[simp] theorem State.clearLine_pcrs : (s.clearLine).pcrs = s.pcrs := rfl
@[simp] theorem State.clearLine_translator : (s.clearLine).translator = s.translator := rfl
@[simp] theorem State.clearLine_scanner : (s.clearLine).scanner = s.scanner := rfl
@[simp] theorem State.clearLine_feed : (s.clearLine).feed = s.feed := rfl
@[simp] theorem State.clearLine_lamps : (s.clearLine).lamps = s.lamps := rfl
@[simp] theorem State.clearLine_cab : (s.clearLine).cab = s.cab := rfl
@[simp] theorem State.clearLine_params : (s.clearLine).params = s.params := rfl
@[simp] theorem State.clearLine_ev : (s.clearLine).ev = s.ev := rfl
@[simp] theorem State.clearLine_pending : (s.clearLine).pending = s.pending := rfl

@[simp] theorem State.heard_now : (s.heard).now = s.now := rfl
@[simp] theorem State.heard_coupling : (s.heard).coupling = s.coupling := rfl
@[simp] theorem State.heard_enumerator : (s.heard).enumerator = s.enumerator := rfl
@[simp] theorem State.heard_link : (s.heard).link = s.link := rfl
@[simp] theorem State.heard_arbiter : (s.heard).arbiter = s.arbiter := rfl
@[simp] theorem State.heard_profiles : (s.heard).profiles = s.profiles := rfl
@[simp] theorem State.heard_steps : (s.heard).steps = s.steps := rfl
@[simp] theorem State.heard_pcrs : (s.heard).pcrs = s.pcrs := rfl
@[simp] theorem State.heard_translator : (s.heard).translator = s.translator := rfl
@[simp] theorem State.heard_scanner : (s.heard).scanner = s.scanner := rfl
@[simp] theorem State.heard_feed : (s.heard).feed = s.feed := rfl
@[simp] theorem State.heard_lamps : (s.heard).lamps = s.lamps := rfl
@[simp] theorem State.heard_cab : (s.heard).cab = { s.cab with gathered := [] } := rfl
@[simp] theorem State.heard_params : (s.heard).params = s.params := rfl
@[simp] theorem State.heard_ev : (s.heard).ev = s.ev := rfl
@[simp] theorem State.heard_pending : (s.heard).pending = s.pending := rfl

@[simp] theorem State.setFrameError_now : (s.setFrameError).now = s.now := rfl
@[simp] theorem State.setFrameError_coupling : (s.setFrameError).coupling = s.coupling := rfl
@[simp] theorem State.setFrameError_enumerator : (s.setFrameError).enumerator = s.enumerator := rfl
@[simp] theorem State.setFrameError_link : (s.setFrameError).link = s.link := rfl
@[simp] theorem State.setFrameError_arbiter : (s.setFrameError).arbiter = s.arbiter := rfl
@[simp] theorem State.setFrameError_profiles : (s.setFrameError).profiles = s.profiles := rfl
@[simp] theorem State.setFrameError_steps : (s.setFrameError).steps = s.steps := rfl
@[simp] theorem State.setFrameError_pcrs : (s.setFrameError).pcrs = s.pcrs := rfl
@[simp] theorem State.setFrameError_translator : (s.setFrameError).translator = s.translator := rfl
@[simp] theorem State.setFrameError_scanner : (s.setFrameError).scanner = s.scanner := rfl
@[simp] theorem State.setFrameError_feed : (s.setFrameError).feed = s.feed := rfl
@[simp] theorem State.setFrameError_lamps : (s.setFrameError).lamps = s.lamps := rfl
@[simp] theorem State.setFrameError_cab : (s.setFrameError).cab = { s.cab with frameError := true } := rfl
@[simp] theorem State.setFrameError_params : (s.setFrameError).params = s.params := rfl
@[simp] theorem State.setFrameError_ev : (s.setFrameError).ev = s.ev := rfl
@[simp] theorem State.setFrameError_pending : (s.setFrameError).pending = s.pending := rfl

@[simp] theorem State.startByteTimer_now : (s.startByteTimer).now = s.now := rfl
@[simp] theorem State.startByteTimer_coupling : (s.startByteTimer).coupling = s.coupling := rfl
@[simp] theorem State.startByteTimer_enumerator : (s.startByteTimer).enumerator = s.enumerator := rfl
@[simp] theorem State.startByteTimer_link : (s.startByteTimer).link = s.link := rfl
@[simp] theorem State.startByteTimer_arbiter : (s.startByteTimer).arbiter = s.arbiter := rfl
@[simp] theorem State.startByteTimer_profiles : (s.startByteTimer).profiles = s.profiles := rfl
@[simp] theorem State.startByteTimer_steps : (s.startByteTimer).steps = s.steps := rfl
@[simp] theorem State.startByteTimer_pcrs : (s.startByteTimer).pcrs = s.pcrs := rfl
@[simp] theorem State.startByteTimer_translator : (s.startByteTimer).translator = s.translator := rfl
@[simp] theorem State.startByteTimer_scanner : (s.startByteTimer).scanner = s.scanner := rfl
@[simp] theorem State.startByteTimer_feed : (s.startByteTimer).feed = s.feed := rfl
@[simp] theorem State.startByteTimer_lamps : (s.startByteTimer).lamps = s.lamps := rfl
@[simp] theorem State.startByteTimer_cab : (s.startByteTimer).cab = { s.cab with byteLimit := s.now + Config.interByte } := rfl
@[simp] theorem State.startByteTimer_params : (s.startByteTimer).params = s.params := rfl
@[simp] theorem State.startByteTimer_ev : (s.startByteTimer).ev = s.ev := rfl
@[simp] theorem State.startByteTimer_pending : (s.startByteTimer).pending = s.pending := rfl

@[simp] theorem State.idle_now : (s.idle).now = s.now + Config.ms := rfl
@[simp] theorem State.idle_coupling : (s.idle).coupling = s.coupling := rfl
@[simp] theorem State.idle_enumerator : (s.idle).enumerator = s.enumerator := rfl
@[simp] theorem State.idle_link : (s.idle).link = s.link := rfl
@[simp] theorem State.idle_arbiter : (s.idle).arbiter = s.arbiter := rfl
@[simp] theorem State.idle_profiles : (s.idle).profiles = s.profiles := rfl
@[simp] theorem State.idle_steps : (s.idle).steps = s.steps := rfl
@[simp] theorem State.idle_pcrs : (s.idle).pcrs = s.pcrs := rfl
@[simp] theorem State.idle_translator : (s.idle).translator = s.translator := rfl
@[simp] theorem State.idle_scanner : (s.idle).scanner = s.scanner := rfl
@[simp] theorem State.idle_feed : (s.idle).feed = s.feed := rfl
@[simp] theorem State.idle_lamps : (s.idle).lamps = s.lamps := rfl
@[simp] theorem State.idle_cab : (s.idle).cab = s.cab := rfl
@[simp] theorem State.idle_params : (s.idle).params = s.params := rfl
@[simp] theorem State.idle_ev : (s.idle).ev = s.ev := rfl
@[simp] theorem State.idle_pending : (s.idle).pending = s.pending := rfl

@[simp] theorem State.sense_now (ts cs : List Nat) : (s.sense ts cs).now = s.now := rfl
@[simp] theorem State.sense_coupling (ts cs : List Nat) : (s.sense ts cs).coupling = s.coupling := rfl
@[simp] theorem State.sense_enumerator (ts cs : List Nat) : (s.sense ts cs).enumerator = s.enumerator := rfl
@[simp] theorem State.sense_link (ts cs : List Nat) : (s.sense ts cs).link = s.link := rfl
@[simp] theorem State.sense_arbiter (ts cs : List Nat) : (s.sense ts cs).arbiter = s.arbiter := rfl
@[simp] theorem State.sense_profiles (ts cs : List Nat) : (s.sense ts cs).profiles = s.profiles := rfl
@[simp] theorem State.sense_steps (ts cs : List Nat) : (s.sense ts cs).steps = s.steps := rfl
@[simp] theorem State.sense_pcrs (ts cs : List Nat) : (s.sense ts cs).pcrs = s.pcrs := rfl
@[simp] theorem State.sense_translator (ts cs : List Nat) : (s.sense ts cs).translator = s.translator := rfl
@[simp] theorem State.sense_scanner (ts cs : List Nat) : (s.sense ts cs).scanner = s.scanner := rfl
@[simp] theorem State.sense_feed (ts cs : List Nat) : (s.sense ts cs).feed = s.feed := rfl
@[simp] theorem State.sense_lamps (ts cs : List Nat) : (s.sense ts cs).lamps = { s.lamps with sensed := cs } := rfl
@[simp] theorem State.sense_cab (ts cs : List Nat) : (s.sense ts cs).cab = s.cab := rfl
@[simp] theorem State.sense_params (ts cs : List Nat) : (s.sense ts cs).params = s.params := rfl
@[simp] theorem State.sense_ev (ts cs : List Nat) : (s.sense ts cs).ev = { s.ev with told := ts } := rfl
@[simp] theorem State.sense_pending (ts cs : List Nat) : (s.sense ts cs).pending = s.pending := rfl

@[simp] theorem State.nextReading_now : s.nextReading.now = s.now := rfl
@[simp] theorem State.nextReading_coupling : s.nextReading.coupling = s.coupling := rfl
@[simp] theorem State.nextReading_enumerator : s.nextReading.enumerator = s.enumerator := rfl
@[simp] theorem State.nextReading_link : s.nextReading.link = s.link := rfl
@[simp] theorem State.nextReading_arbiter : s.nextReading.arbiter = s.arbiter := rfl
@[simp] theorem State.nextReading_profiles : s.nextReading.profiles = s.profiles := rfl
@[simp] theorem State.nextReading_steps : s.nextReading.steps = s.steps := rfl
@[simp] theorem State.nextReading_pcrs : s.nextReading.pcrs = s.pcrs := rfl
@[simp] theorem State.nextReading_translator : s.nextReading.translator = s.translator := rfl
@[simp] theorem State.nextReading_scanner : s.nextReading.scanner = s.scanner := rfl
@[simp] theorem State.nextReading_feed : s.nextReading.feed = s.feed := rfl
@[simp] theorem State.nextReading_lamps : s.nextReading.lamps = { s.lamps with readings := s.lamps.readings + 1 } := rfl
@[simp] theorem State.nextReading_cab : s.nextReading.cab = s.cab := rfl
@[simp] theorem State.nextReading_params : s.nextReading.params = s.params := rfl
@[simp] theorem State.nextReading_ev : s.nextReading.ev = s.ev := rfl
@[simp] theorem State.nextReading_pending : s.nextReading.pending = s.pending := rfl

/-! ### One position's record, one circuit -/

theorem PerPos.get_set (x : PerPos α) (p q : Nat) (a : α) (hp : positionOk p = true) (hq : positionOk q = true) :
    (x.set p a).get q = if q = p then a else x.get q := by
  simp only [positionOk, decide_eq_true_eq] at hp hq
  obtain ⟨h1, h2⟩ := hp
  obtain ⟨h3, h4⟩ := hq
  match p, q with
  | 1, 1 => rfl
  | 1, 2 => rfl
  | 1, 3 => rfl
  | 1, 4 => rfl
  | 2, 1 => rfl
  | 2, 2 => rfl
  | 2, 3 => rfl
  | 2, 4 => rfl
  | 3, 1 => rfl
  | 3, 2 => rfl
  | 3, 3 => rfl
  | 3, 4 => rfl
  | 4, 1 => rfl
  | 4, 2 => rfl
  | 4, 3 => rfl
  | 4, 4 => rfl

theorem PerPos.get_set_same (x : PerPos α) (p : Nat) (a : α) (hp : positionOk p = true) : (x.set p a).get p = a := by
  rw [PerPos.get_set x p p a hp hp, if_pos rfl]

theorem State.pcr_setPcr (p q : Nat) (x : Pcr) (hp : positionOk p = true) (hq : positionOk q = true) :
    (s.setPcr p x).pcr q = if q = p then x else s.pcr q := PerPos.get_set s.pcrs p q x hp hq

theorem State.pcr_modifyPcr (p q : Nat) (f : Pcr → Pcr) (hp : positionOk p = true) (hq : positionOk q = true) :
    (s.modifyPcr p f).pcr q = if q = p then f (s.pcr p) else s.pcr q := PerPos.get_set s.pcrs p q _ hp hq

theorem State.circuit_setCircuit (c d : Nat) (x : Circuit) (hc : 1 ≤ c) (hd : 1 ≤ d)
    (hl : c ≤ s.lamps.circuits.length) : (s.setCircuit c x).circuit d = if d = c then x else s.circuit d := by
  have h : c - 1 < s.lamps.circuits.length := by omega
  simp only [State.circuit, State.setCircuit_lamps, List.getD_eq_getElem?_getD, List.getElem?_set]
  by_cases e : d = c
  · subst e; simp [h]
  · have : ¬ c - 1 = d - 1 := by omega
    simp [e, this]

@[simp] theorem State.setCircuit_circuits_length (c : Nat) (x : Circuit) :
    (s.setCircuit c x).lamps.circuits.length = s.lamps.circuits.length := by simp

/-- Taking away what a pcr update left as it was. -/
@[simp] theorem State.setPcr_self_state (p : Nat) (st : PosState) (hp : positionOk p = true) :
    ((s.modifyPcr p (fun x => { x with state := st })).pcr p).state = st := by
  rw [State.pcr_modifyPcr s p p _ hp hp, if_pos rfl]

end Sys2Proof.Machine
end

