-- ==== Sys2Proof/Laws/Chain.lean ====
section
/-! SUPPORT. What the blocks behind the chain link leave alone: the enumerator, the link controller and the arbiter's
pointer. The lamp check unit, the feed manager, the translator, the scanner and the engine change none of them; one lemma
for each of their operations. -/

namespace Sys2Proof.Machine

/-- The chain's own part of the state. -/
structure Chain where
  enumerator : Enumerator
  link : Link
  pointer : Nat

def State.chain (s : State) : Chain := { enumerator := s.enumerator, link := s.link, pointer := s.arbiter.pointer }

theorem foldl_chain (f : State → α → State) (h : ∀ s a, (f s a).chain = s.chain) (l : List α) (s : State) :
    (l.foldl f s).chain = s.chain := by
  induction l generalizing s with
  | nil => rfl
  | cons a as ih => rw [List.foldl_cons, ih, h]

variable (s : State)

/-! ### Plain updates -/


@[simp] theorem State.setPcr_chain (p : Nat) (x : Pcr) : (s.setPcr p x).chain = s.chain := rfl

@[simp] theorem State.modifyPcr_chain (p : Nat) (f : Pcr → Pcr) : (s.modifyPcr p f).chain = s.chain := rfl

@[simp] theorem State.await_chain (p : Nat) (ph : StepPhase) : (s.await p ph).chain = s.chain := rfl

@[simp] theorem State.setCircuit_chain (c : Nat) (x : Circuit) : (s.setCircuit c x).chain = s.chain := rfl

@[simp] theorem State.hand_chain (j : Job) : (s.hand j).chain = s.chain := rfl

@[simp] theorem State.handFirst_chain (j : Job) : (s.handFirst j).chain = s.chain := rfl

@[simp] theorem State.note_chain (n : Notice) : (s.note n).chain = s.chain := rfl

@[simp] theorem State.noteEngine_chain (p : Nat) (n : Notice) : (s.noteEngine p n).chain = s.chain := rfl

@[simp] theorem State.markFeedPlace_chain : (s.markFeedPlace).chain = s.chain := rfl

@[simp] theorem State.openEvent_chain : (s.openEvent).chain = s.chain := rfl

@[simp] theorem State.modifyOut_chain (k : PointKey) (f : OutRec → OutRec) : (s.modifyOut k f).chain = s.chain := rfl

@[simp] theorem State.evaluateOutputs_chain : (s.evaluateOutputs).chain = s.chain := rfl

@[simp] theorem State.modifyFeed_chain (f : Feed → Feed) : (s.modifyFeed f).chain = s.chain := rfl

@[simp] theorem State.modifyScanner_chain (f : Scanner → Scanner) : (s.modifyScanner f).chain = s.chain := rfl

@[simp] theorem State.placeReport_chain (r : Report) : (s.placeReport r).chain = s.chain := rfl

@[simp] theorem State.placeNotices_chain : (s.placeNotices).chain = s.chain := rfl

@[simp] theorem State.transmit_chain : (s.transmit).chain = s.chain := rfl

/-! ### Lamp check unit -/


@[simp] theorem State.nextReading_chain : (s.nextReading).chain = s.chain := rfl

@[simp] theorem State.sense_chain (ts cs : List Nat) : (s.sense ts cs).chain = s.chain := rfl

@[simp] theorem State.handover_chain (c : Nat) (on : Bool) : (s.handover c on).chain = s.chain := by
  unfold State.handover; (try dsimp only); repeat' split
  all_goals first | (simp; done) | (simp; rfl) | rfl

@[simp] theorem State.resetJudgement_chain (c : Nat) : (s.resetJudgement c).chain = s.chain := by
  unfold State.resetJudgement; (try dsimp only); repeat' split
  all_goals first | (simp; done) | (simp; rfl) | rfl

@[simp] theorem State.bindLoad_chain (p c n : Nat) : (s.bindLoad p c n).chain = s.chain := by
  simp [State.bindLoad]; rfl

@[simp] theorem State.removeLoads_chain (g : Nat → Bool) : (s.removeLoads g).chain = s.chain := by
  unfold State.removeLoads; dsimp only
  rw [foldl_chain _ (fun s c => by simp)]; rfl

@[simp] theorem State.verdict_chain (c : Nat) : (s.verdict c).chain = s.chain := by
  unfold State.verdict; (try dsimp only); repeat' split
  all_goals first | (simp; done) | (simp; rfl) | rfl

@[simp] theorem State.lampCheck_chain : (s.lampCheck).chain = s.chain := by
  unfold State.lampCheck; exact foldl_chain _ (fun s c => by split <;> simp) _ _

@[simp] theorem State.measureProbe_chain (c : Nat) (pr : Probe) : (s.measureProbe c pr).chain = s.chain := by
  simp [State.measureProbe]

theorem serveProbes_chain (c : Nat) (l : List Probe) : (serveProbes c l s).chain = s.chain := by
  induction l generalizing s with
  | nil => simp [serveProbes]
  | cons pr rest ih => unfold serveProbes; split <;> simp [ih]

@[simp] theorem State.releaseProbe_chain (c : Nat) : (s.releaseProbe c).chain = s.chain := by
  simp [State.releaseProbe, serveProbes_chain]

@[simp] theorem State.requestProbe_chain (c : Nat) (pr : Probe) : (s.requestProbe c pr).chain = s.chain := by
  unfold State.requestProbe; dsimp only; repeat' split
  all_goals simp [serveProbes_chain]

@[simp] theorem State.pulseEnds_chain (c : Nat) : (s.pulseEnds c).chain = s.chain := by
  unfold State.pulseEnds; dsimp only; repeat' split
  all_goals simp [serveProbes_chain]

@[simp] theorem State.abandonProbes_chain (p : Nat) : (s.abandonProbes p).chain = s.chain := by
  unfold State.abandonProbes; dsimp only
  rw [foldl_chain _ (fun s c => by split <;> simp), foldl_chain _ (fun s c => by simp)]

@[simp] theorem State.detachLamps_chain (g : Nat → Bool) : (s.detachLamps g).chain = s.chain := by
  unfold State.detachLamps; dsimp only
  rw [foldl_chain _ (fun s c => by split <;> simp), State.removeLoads_chain, foldl_chain _ (fun s c => by simp)]

@[simp] theorem State.trip_chain (c : Nat) : (s.trip c).chain = s.chain := by
  unfold State.trip; dsimp only
  rw [foldl_chain _ (fun s c => by simp)]; simp

/-! ### Feed manager -/


@[simp] theorem State.applyBudget_chain : (s.applyBudget).chain = s.chain := rfl

@[simp] theorem State.leaveHold_chain : (s.leaveHold).chain = s.chain := rfl

@[simp] theorem State.arithmetic_chain : (s.arithmetic).chain = s.chain := rfl

@[simp] theorem State.checkHold_chain : (s.checkHold).chain = s.chain := by
  unfold State.checkHold; (try dsimp only); repeat' split
  all_goals first | (simp; done) | (simp; rfl) | rfl

@[simp] theorem State.raiseFeed_chain (t : Nat) : (s.raiseFeed t).chain = s.chain := rfl

@[simp] theorem State.lowerFeed_chain (t : Nat) : (s.lowerFeed t).chain = s.chain := by
  unfold State.lowerFeed; dsimp only; split <;> simp

@[simp] theorem State.moveFeed_chain (t : Nat) : (s.moveFeed t).chain = s.chain := by
  unfold State.moveFeed; (try dsimp only); repeat' split
  all_goals first | (simp; done) | (simp; rfl) | rfl

@[simp] theorem State.evaluateStep_chain (p : Nat) : (s.evaluateStep p).chain = s.chain := by
  unfold State.evaluateStep; (try dsimp only); repeat' split
  all_goals first | (simp; done) | (simp; rfl) | rfl

@[simp] theorem State.evaluateWaiting_chain : (s.evaluateWaiting).chain = s.chain := by
  unfold State.evaluateWaiting; exact foldl_chain _ (fun s p => by simp) _ _

@[simp] theorem State.feedTail_chain : (s.feedTail).chain = s.chain := by
  simp [State.feedTail]

@[simp] theorem State.takeTarget_chain : (s.takeTarget).chain = s.chain := by
  unfold State.takeTarget; (try dsimp only); repeat' split
  all_goals first | (simp; done) | (simp; rfl) | rfl

@[simp] theorem State.feedChanged_chain : (s.feedChanged).chain = s.chain := by
  simp [State.feedChanged]

@[simp] theorem State.setRequest_chain (p c : Nat) : (s.setRequest p c).chain = s.chain := rfl

@[simp] theorem State.abandonFeedStep_chain (p : Nat) : (s.abandonFeedStep p).chain = s.chain := rfl

@[simp] theorem State.requestFeed_chain (p c : Nat) : (s.requestFeed p c).chain = s.chain := by
  simp [State.requestFeed]

@[simp] theorem State.detachFeed_chain (g : Nat → Bool) : (s.detachFeed g).chain = s.chain := by
  simp [State.detachFeed]

@[simp] theorem State.settleExpires_chain : (s.settleExpires).chain = s.chain := by
  unfold State.settleExpires; (try dsimp only); repeat' split
  all_goals first | (simp; done) | (simp; rfl) | rfl

@[simp] theorem State.lowerHoldExpires_chain : (s.lowerHoldExpires).chain = s.chain := by
  simp [State.lowerHoldExpires]

@[simp] theorem State.zoneEvent_chain (z : Zone) : (s.zoneEvent z).chain = s.chain := by
  unfold State.zoneEvent; (try dsimp only); repeat' split
  all_goals first | (simp; done) | (simp; rfl) | rfl

/-! ### Function translator -/


@[simp] theorem State.deriveCircuit_chain (c : Nat) : (s.deriveCircuit c).chain = s.chain := by
  unfold State.deriveCircuit; (try dsimp only); repeat' split
  all_goals first | (simp; done) | (simp; rfl) | rfl

@[simp] theorem State.derivePoint_chain (k : PointKey) : (s.derivePoint k).chain = s.chain := rfl

@[simp] theorem State.deriveTarget_chain (t : Target) : (s.deriveTarget t).chain = s.chain := by
  unfold State.deriveTarget; (try dsimp only); repeat' split
  all_goals first | (simp; done) | (simp; rfl) | rfl

@[simp] theorem State.takeFunction_chain (c v : Nat) : (s.takeFunction c v).chain = s.chain := by
  unfold State.takeFunction; dsimp only
  have h := fun l (x : State) => foldl_chain State.deriveTarget (fun s t => by simp) l x
  repeat' split
  all_goals simp [h]
  all_goals rfl

@[simp] theorem State.bindRecord_chain (k : PointKey) (c : OutClass) (n : Nat) : (s.bindRecord k c n).chain = s.chain := by
  unfold State.bindRecord; (try dsimp only); repeat' split
  all_goals first | (simp; done) | (simp; rfl) | rfl

@[simp] theorem State.bindEntry_chain (e : MapEntry) : (s.bindEntry e).chain = s.chain := rfl

@[simp] theorem State.bind_chain (e : MapEntry) (c : OutClass) (n : Nat) : (s.bind e c n).chain = s.chain := by
  unfold State.bind; (try dsimp only); repeat' split
  all_goals first | (simp; done) | (simp; rfl) | rfl

@[simp] theorem State.retireOrDerive_chain (k : PointKey) : (s.retireOrDerive k).chain = s.chain := by
  unfold State.retireOrDerive; (try dsimp only); repeat' split
  all_goals first | (simp; done) | (simp; rfl) | rfl

@[simp] theorem State.afterRemoval_chain (t : Target) : (s.afterRemoval t).chain = s.chain := by
  unfold State.afterRemoval; (try dsimp only); repeat' split
  all_goals first | (simp; done) | (simp; rfl) | rfl

@[simp] theorem State.removeEntries_chain (o : MapEntry → Bool) : (s.removeEntries o).chain = s.chain := by
  unfold State.removeEntries; dsimp only
  rw [foldl_chain _ (fun s t => by simp)]; rfl

@[simp] theorem State.unbind_chain (c : Nat) (t : Target) : (s.unbind c t).chain = s.chain := by
  unfold State.unbind; (try dsimp only); repeat' split
  all_goals first | (simp; done) | (simp; rfl) | rfl

@[simp] theorem State.detachTranslator_chain (g : Nat → Bool) : (s.detachTranslator g).chain = s.chain := rfl

@[simp] theorem State.grantWrite_chain (r : OutRec) : (s.grantWrite r).chain = s.chain := rfl

@[simp] theorem State.writeAccepted_chain (k : PointKey) : (s.writeAccepted k).chain = s.chain := by
  unfold State.writeAccepted; (try dsimp only); repeat' split
  all_goals first | (simp; done) | (simp; rfl) | rfl

@[simp] theorem State.writeRefused_chain (k : PointKey) : (s.writeRefused k).chain = s.chain := by
  simp [State.writeRefused]

@[simp] theorem State.writeFailed_chain (k : PointKey) : (s.writeFailed k).chain = s.chain := by
  simp [State.writeFailed]

@[simp] theorem State.writeReturned_chain (k : PointKey) : (s.writeReturned k).chain = s.chain := by
  unfold State.writeReturned; (try dsimp only); repeat' split
  all_goals first | (simp; done) | (simp; rfl) | rfl

@[simp] theorem State.noteRunWrite_chain (k : PointKey) (b : List Byte) : (s.noteRunWrite k b).chain = s.chain := by
  unfold State.noteRunWrite; (try dsimp only); repeat' split
  all_goals first | (simp; done) | (simp; rfl) | rfl

/-! ### Report scanner -/


@[simp] theorem State.bindReport_chain (e : ReportEntry) : (s.bindReport e).chain = s.chain := rfl

@[simp] theorem State.unbindReport_chain (k : PointKey) : (s.unbindReport k).chain = s.chain := rfl

@[simp] theorem State.releaseReports_chain (p : Nat) : (s.releaseReports p).chain = s.chain := rfl

@[simp] theorem State.dropInitialReads_chain (p : Nat) : (s.dropInitialReads p).chain = s.chain := rfl

@[simp] theorem State.finishRound_chain : (s.finishRound).chain = s.chain := by
  unfold State.finishRound; (try dsimp only); repeat' split
  all_goals first | (simp; done) | (simp; rfl) | rfl

@[simp] theorem State.chooseWork_chain : (s.chooseWork).chain = s.chain := by
  unfold State.chooseWork; (try dsimp only); repeat' split
  all_goals first | (simp; done) | (simp; rfl) | rfl

@[simp] theorem State.startRound_chain : (s.startRound).chain = s.chain := by
  simp [State.startRound]

@[simp] theorem State.periodExpires_chain : (s.periodExpires).chain = s.chain := by
  unfold State.periodExpires; (try dsimp only); repeat' split
  all_goals first | (simp; done) | (simp; rfl) | rfl

@[simp] theorem State.scanGranted_chain (n : Nat) (w : ScanWork) : (s.scanGranted n w).chain = s.chain := by
  simp [State.scanGranted]

@[simp] theorem State.takeAttention_chain (p : Nat) : (s.takeAttention p).chain = s.chain := by
  unfold State.takeAttention; (try dsimp only); repeat' split
  all_goals first | (simp; done) | (simp; rfl) | rfl

@[simp] theorem State.report_chain (e : ReportEntry) (v : Nat) : (s.report e v).chain = s.chain := by
  simp [State.report]

@[simp] theorem State.deliverChange_chain (k : PointKey) (v : Nat) : (s.deliverChange k v).chain = s.chain := by
  unfold State.deliverChange; (try dsimp only); repeat' split
  all_goals first | (simp; done) | (simp; rfl) | rfl

@[simp] theorem State.initialReadEnded_chain (k : PointKey) (o : TxnOutcome) : (s.initialReadEnded k o).chain = s.chain := by
  unfold State.initialReadEnded; (try dsimp only); repeat' split
  all_goals first | (simp; done) | (simp; rfl) | rfl

@[simp] theorem State.changeListEnded_chain (p : Nat) (e : Ended) : (s.changeListEnded p e).chain = s.chain := by
  unfold State.changeListEnded; dsimp only
  have h := fun l (x : State) => foldl_chain (fun s (av : Nat × Nat) => s.deliverChange ⟨p, av.1⟩ av.2) (fun s t => by simp) l x
  split <;> simp [h]

@[simp] theorem State.scanEnded_chain (w : ScanWork) (e : Ended) : (s.scanEnded w e).chain = s.chain := by
  unfold State.scanEnded; (try dsimp only); repeat' split
  all_goals first | (simp; done) | (simp; rfl) | rfl

@[simp] theorem State.detachScanner_chain (g : Nat → Bool) : (s.detachScanner g).chain = s.chain := by
  simp [State.detachScanner]

@[simp] theorem State.scanReturned_chain (w : ScanWork) (t : Txn) : (s.scanReturned w t).chain = s.chain := by
  unfold State.scanReturned; (try dsimp only); repeat' split
  all_goals first | (simp; done) | (simp; rfl) | rfl

@[simp] theorem State.scanDropped_chain (t : Txn) : (s.scanDropped t).chain = s.chain := by
  simp [State.scanDropped]

@[simp] theorem State.restartScanner_chain : (s.restartScanner).chain = s.chain := rfl

/-! ### Bring-up engine -/


@[simp] theorem State.enter_chain (p : Nat) (st : PosState) : (s.enter p st).chain = s.chain := rfl

@[simp] theorem State.failRun_chain (p : Nat) (c : Cause) : (s.failRun p c).chain = s.chain := rfl

@[simp] theorem State.endRun_chain (p : Nat) : (s.endRun p).chain = s.chain := rfl

@[simp] theorem State.goTo_chain (p i : Nat) : (s.goTo p i).chain = s.chain := by
  unfold State.goTo; (try dsimp only); repeat' split
  all_goals first | (simp; done) | (simp; rfl) | rfl

@[simp] theorem State.decideNext_chain (p : Nat) (b : Option Int) : (s.decideNext p b).chain = s.chain := by
  unfold State.decideNext; (try dsimp only); repeat' split
  all_goals first | (simp; done) | (simp; rfl) | rfl

@[simp] theorem State.succeed_chain (p : Nat) : (s.succeed p).chain = s.chain := by
  simp [State.succeed]

@[simp] theorem State.stepFault_chain (p : Nat) (c : Cause) : (s.stepFault p c).chain = s.chain := by
  unfold State.stepFault; (try dsimp only); repeat' split
  all_goals first | (simp; done) | (simp; rfl) | rfl

@[simp] theorem State.completeStep_chain (p : Nat) (v : Option Nat) (f : Option Cause) : (s.completeStep p v f).chain = s.chain := by
  unfold State.completeStep; (try dsimp only); repeat' split
  all_goals first | (simp; done) | (simp; rfl) | rfl

@[simp] theorem State.operate_chain (p : Nat) (op : StepOp) : (s.operate p op).chain = s.chain := by
  unfold State.operate; (try dsimp only); repeat' split
  all_goals first | (simp; done) | (simp; rfl) | rfl

@[simp] theorem State.beginStep_chain (p : Nat) : (s.beginStep p).chain = s.chain := by
  unfold State.beginStep; (try dsimp only); repeat' split
  all_goals first | (simp; done) | (simp; rfl) | rfl

@[simp] theorem State.doJob_chain (j : Job) : (s.doJob j).chain = s.chain := by
  unfold State.doJob; (try dsimp only); repeat' split
  all_goals first | (simp; done) | (simp; rfl) | rfl

theorem State.drain_chain (n : Nat) : (s.drain n).chain = s.chain := by
  induction n generalizing s with
  | zero => rfl
  | succ n ih =>
    unfold State.drain; split
    · rfl
    · rw [ih]; simp; rfl

@[simp] theorem State.settleJobs_chain : (s.settleJobs).chain = s.chain := by
  exact State.drain_chain s 4096

@[simp] theorem State.startRun_chain (p n : Nat) : (s.startRun p n).chain = s.chain := by
  simp [State.startRun]

@[simp] theorem State.autoStart_chain (p : Nat) : (s.autoStart p).chain = s.chain := by
  unfold State.autoStart; (try dsimp only); repeat' split
  all_goals first | (simp; done) | (simp; rfl) | rfl

@[simp] theorem State.autoStartAll_chain : (s.autoStartAll).chain = s.chain := by
  unfold State.autoStartAll; exact foldl_chain _ (fun s p => by simp) _ _

@[simp] theorem State.takeIdentity_chain (p : Nat) (i : Identity) : (s.takeIdentity p i).chain = s.chain := by
  unfold State.takeIdentity; (try dsimp only); repeat' split
  all_goals first | (simp; done) | (simp; rfl) | rfl

@[simp] theorem State.identFailed_chain (p : Nat) : (s.identFailed p).chain = s.chain := rfl

@[simp] theorem State.identifying_chain (p : Nat) : (s.identifying p).chain = s.chain := rfl

@[simp] theorem State.rematch_chain (p : Nat) : (s.rematch p).chain = s.chain := by
  unfold State.rematch; (try dsimp only); repeat' split
  all_goals first | (simp; done) | (simp; rfl) | rfl

@[simp] theorem State.rematchAll_chain : (s.rematchAll).chain = s.chain := by
  unfold State.rematchAll; exact foldl_chain _ (fun s p => by simp) _ _

@[simp] theorem State.trafficFault_chain (p : Nat) (c : Cause) : (s.trafficFault p c).chain = s.chain := by
  unfold State.trafficFault; (try dsimp only); repeat' split
  all_goals first | (simp; done) | (simp; rfl) | rfl

@[simp] theorem State.engineGranted_chain (p n : Nat) : (s.engineGranted p n).chain = s.chain := rfl

@[simp] theorem State.takeRead_chain (p : Nat) (b : List Byte) : (s.takeRead p b).chain = s.chain := by
  unfold State.takeRead; (try dsimp only); repeat' split
  all_goals first | (simp; done) | (simp; rfl) | rfl

@[simp] theorem State.linkFailure_chain (p : Nat) (c : Cause) : (s.linkFailure p c).chain = s.chain := by
  unfold State.linkFailure; (try dsimp only); repeat' split
  all_goals first | (simp; done) | (simp; rfl) | rfl

@[simp] theorem State.nodeAnswered_chain (p : Nat) (st : InitialStatus) : (s.nodeAnswered p st).chain = s.chain := by
  unfold State.nodeAnswered; (try dsimp only); repeat' split
  all_goals first | (simp; done) | (simp; rfl) | rfl

@[simp] theorem State.lengthEnded_chain (p r : Nat) (b : List Byte) : (s.lengthEnded p r b).chain = s.chain := by
  unfold State.lengthEnded; (try dsimp only); repeat' split
  all_goals first | (simp; done) | (simp; rfl) | rfl

@[simp] theorem State.noteIfWrite_chain (e : Ended) : (s.noteIfWrite e).chain = s.chain := by
  unfold State.noteIfWrite; (try dsimp only); repeat' split
  all_goals first | (simp; done) | (simp; rfl) | rfl

@[simp] theorem State.stepEnded_chain (p : Nat) (e : Ended) : (s.stepEnded p e).chain = s.chain := by
  unfold State.stepEnded; (try dsimp only); repeat' split
  all_goals first | (simp; done) | (simp; rfl) | rfl

@[simp] theorem State.engineEnded_chain (e : Ended) : (s.engineEnded e).chain = s.chain := by
  unfold State.engineEnded; (try dsimp only); repeat' split
  all_goals first | (simp; done) | (simp; rfl) | rfl

@[simp] theorem State.engineReturned_chain (t : Txn) : (s.engineReturned t).chain = s.chain := by
  unfold State.engineReturned; (try dsimp only); repeat' split
  all_goals first | (simp; done) | (simp; rfl) | rfl

@[simp] theorem State.busyRetry_chain (p : Nat) : (s.busyRetry p).chain = s.chain := rfl

@[simp] theorem State.waitOver_chain (p : Nat) : (s.waitOver p).chain = s.chain := by
  simp [State.waitOver]

@[simp] theorem State.stopRun_chain (p : Nat) : (s.stopRun p).chain = s.chain := by
  simp [State.stopRun]

@[simp] theorem State.stopAllRuns_chain : (s.stopAllRuns).chain = s.chain := by
  unfold State.stopAllRuns; exact foldl_chain _ (fun s p => by split <;> simp) _ _

@[simp] theorem State.detachEngine_chain (g : Nat → Bool) : (s.detachEngine g).chain = s.chain := by
  unfold State.detachEngine; exact foldl_chain _ (fun s p => by split <;> simp) _ _

@[simp] theorem State.restartEngine_chain : (s.restartEngine).chain = s.chain := rfl


end Sys2Proof.Machine
end

