-- ==== Sys2Proof/Laws/Env.lean ====
section
/-! SUPPORT. What the blocks' operations leave alone whatever they do: the clock, the coupling levels, the two stores, the
parameters, the waiting commands, the sensed currents, and of the cab port everything but its Report Queue; and what the
close of an event adds, its notices. One lemma for each operation, so that no proof about these unfolds an operation. -/

namespace Sys2Proof.Machine

/-- The part of the state that no operation inside an event changes: of the cab port everything but its Report Queue. -/
structure Env where
  now : Nat
  coupling : Coupling
  profiles : List Profile
  steps : List Descriptor
  params : Params
  pending : List Instr
  sensed : List Nat
  cab : CabPort

/-- The cab port but for its Report Queue and the flag of that queue. -/
def CabPort.apart (c : CabPort) : CabPort := { c with reports := [], reportsLost := false }

def State.env (s : State) : Env :=
  { now := s.now, coupling := s.coupling, profiles := s.profiles, steps := s.steps, params := s.params
    pending := s.pending, sensed := s.lamps.sensed, cab := s.cab.apart }

theorem foldl_env (f : State → α → State) (h : ∀ s a, (f s a).env = s.env) (l : List α) (s : State) :
    (l.foldl f s).env = s.env := by
  induction l generalizing s with
  | nil => rfl
  | cons a as ih => rw [List.foldl_cons, ih, h]

theorem CabPort.placeReport_apart (c : CabPort) (r : Report) : (c.placeReport r).apart = c.apart := by
  unfold CabPort.placeReport; dsimp only; split
  · rfl
  · split <;> rfl

theorem CabPort.placeNotice_apart (c : CabPort) (n : Notice) : (c.placeNotice n).apart = c.apart.placeNotice n := by
  unfold CabPort.placeNotice CabPort.apart; dsimp only; split <;> rfl

theorem CabPort.placeNotices_apart (l : List Notice) (c : CabPort) :
    (l.foldl CabPort.placeNotice c).apart = l.foldl CabPort.placeNotice c.apart := by
  induction l generalizing c with
  | nil => rfl
  | cons n ns ih => simp only [List.foldl_cons, ih, CabPort.placeNotice_apart]

theorem CabPort.placeNotice_keeps (c : CabPort) (n : Notice) :
    (c.placeNotice n).replies = c.replies ∧ (c.placeNotice n).sending = c.sending ∧
    (c.placeNotice n).gathered = c.gathered ∧ (c.placeNotice n).byteLimit = c.byteLimit ∧
    (c.placeNotice n).requestsDropped = c.requestsDropped ∧ (c.placeNotice n).frameError = c.frameError ∧
    (c.placeNotice n).reports = c.reports ∧ (c.placeNotice n).reportsLost = c.reportsLost := by
  unfold CabPort.placeNotice; split <;> simp

theorem CabPort.placeNotices_keeps (l : List Notice) (c : CabPort) :
    (l.foldl CabPort.placeNotice c).replies = c.replies ∧ (l.foldl CabPort.placeNotice c).sending = c.sending ∧
    (l.foldl CabPort.placeNotice c).gathered = c.gathered ∧ (l.foldl CabPort.placeNotice c).byteLimit = c.byteLimit ∧
    (l.foldl CabPort.placeNotice c).requestsDropped = c.requestsDropped ∧
    (l.foldl CabPort.placeNotice c).frameError = c.frameError ∧
    (l.foldl CabPort.placeNotice c).reports = c.reports ∧
    (l.foldl CabPort.placeNotice c).reportsLost = c.reportsLost := by
  induction l generalizing c with
  | nil => simp
  | cons n ns ih => simp only [List.foldl_cons, ih, CabPort.placeNotice_keeps, and_self]

variable (s : State)

/-! ### Plain updates -/


@[simp] theorem State.setPcr_env (p : Nat) (x : Pcr) : (s.setPcr p x).env = s.env := rfl

@[simp] theorem State.modifyPcr_env (p : Nat) (f : Pcr → Pcr) : (s.modifyPcr p f).env = s.env := rfl

@[simp] theorem State.await_env (p : Nat) (ph : StepPhase) : (s.await p ph).env = s.env := rfl

@[simp] theorem State.setCircuit_env (c : Nat) (x : Circuit) : (s.setCircuit c x).env = s.env := rfl

@[simp] theorem State.hand_env (j : Job) : (s.hand j).env = s.env := rfl

@[simp] theorem State.handFirst_env (j : Job) : (s.handFirst j).env = s.env := rfl

@[simp] theorem State.note_env (n : Notice) : (s.note n).env = s.env := rfl

@[simp] theorem State.noteEngine_env (p : Nat) (n : Notice) : (s.noteEngine p n).env = s.env := rfl

@[simp] theorem State.markFeedPlace_env : (s.markFeedPlace).env = s.env := rfl

@[simp] theorem State.openEvent_env : (s.openEvent).env = s.env := rfl

@[simp] theorem State.modifyOut_env (k : PointKey) (f : OutRec → OutRec) : (s.modifyOut k f).env = s.env := rfl

@[simp] theorem State.evaluateOutputs_env : (s.evaluateOutputs).env = s.env := rfl

@[simp] theorem State.modifyFeed_env (f : Feed → Feed) : (s.modifyFeed f).env = s.env := rfl

@[simp] theorem State.modifyScanner_env (f : Scanner → Scanner) : (s.modifyScanner f).env = s.env := rfl

@[simp] theorem State.modifyEnum_env (f : Enumerator → Enumerator) : (s.modifyEnum f).env = s.env := rfl

@[simp] theorem State.modifyLink_env (f : Link → Link) : (s.modifyLink f).env = s.env := rfl

@[simp] theorem State.setLine_env (l : OnLine) : (s.setLine l).env = s.env := rfl

@[simp] theorem State.clearLine_env : (s.clearLine).env = s.env := rfl

@[simp] theorem State.placeReport_env (r : Report) : (s.placeReport r).env = s.env := by
  simp [State.env, State.placeReport, State.modifyCab, CabPort.placeReport_apart]

/-- Placing an event's notices changes the Notice Queue and its flag alone. -/
theorem State.placeNotices_env : (s.placeNotices).env =
    { s.env with cab := (eventNotices s.ev.notices s.feedNotice).foldl CabPort.placeNotice s.env.cab } := by
  simp [State.env, State.placeNotices, CabPort.placeNotices_apart]

/-! ### Lamp check unit -/


@[simp] theorem State.nextReading_env : (s.nextReading).env = s.env := rfl

/-- The currents that a command brings are the one input that changes within an event. -/
@[simp] theorem State.sense_env (ts cs : List Nat) : (s.sense ts cs).env = { s.env with sensed := cs } := rfl

@[simp] theorem State.handover_env (c : Nat) (on : Bool) : (s.handover c on).env = s.env := by
  unfold State.handover; (try dsimp only); repeat' split
  all_goals first | (simp; done) | (simp; rfl) | rfl

@[simp] theorem State.resetJudgement_env (c : Nat) : (s.resetJudgement c).env = s.env := by
  unfold State.resetJudgement; (try dsimp only); repeat' split
  all_goals first | (simp; done) | (simp; rfl) | rfl

@[simp] theorem State.bindLoad_env (p c n : Nat) : (s.bindLoad p c n).env = s.env := by
  simp [State.bindLoad]; rfl

@[simp] theorem State.removeLoads_env (g : Nat → Bool) : (s.removeLoads g).env = s.env := by
  unfold State.removeLoads; dsimp only
  rw [foldl_env _ (fun s c => by simp)]; rfl

@[simp] theorem State.verdict_env (c : Nat) : (s.verdict c).env = s.env := by
  unfold State.verdict; (try dsimp only); repeat' split
  all_goals first | (simp; done) | (simp; rfl) | rfl

@[simp] theorem State.lampCheck_env : (s.lampCheck).env = s.env := by
  unfold State.lampCheck; exact foldl_env _ (fun s c => by split <;> simp) _ _

@[simp] theorem State.measureProbe_env (c : Nat) (pr : Probe) : (s.measureProbe c pr).env = s.env := by
  simp [State.measureProbe]

theorem serveProbes_env (c : Nat) (l : List Probe) : (serveProbes c l s).env = s.env := by
  induction l generalizing s with
  | nil => simp [serveProbes]
  | cons pr rest ih => unfold serveProbes; split <;> simp [ih]

@[simp] theorem State.releaseProbe_env (c : Nat) : (s.releaseProbe c).env = s.env := by
  simp [State.releaseProbe, serveProbes_env]

@[simp] theorem State.requestProbe_env (c : Nat) (pr : Probe) : (s.requestProbe c pr).env = s.env := by
  unfold State.requestProbe; dsimp only; repeat' split
  all_goals simp [serveProbes_env]

@[simp] theorem State.pulseEnds_env (c : Nat) : (s.pulseEnds c).env = s.env := by
  unfold State.pulseEnds; dsimp only; repeat' split
  all_goals simp [serveProbes_env]

@[simp] theorem State.abandonProbes_env (p : Nat) : (s.abandonProbes p).env = s.env := by
  unfold State.abandonProbes; dsimp only
  rw [foldl_env _ (fun s c => by split <;> simp), foldl_env _ (fun s c => by simp)]

@[simp] theorem State.detachLamps_env (g : Nat → Bool) : (s.detachLamps g).env = s.env := by
  unfold State.detachLamps; dsimp only
  rw [foldl_env _ (fun s c => by split <;> simp), State.removeLoads_env, foldl_env _ (fun s c => by simp)]

@[simp] theorem State.trip_env (c : Nat) : (s.trip c).env = s.env := by
  unfold State.trip; dsimp only
  rw [foldl_env _ (fun s c => by simp)]; simp

/-! ### Feed manager -/


@[simp] theorem State.applyBudget_env : (s.applyBudget).env = s.env := rfl

@[simp] theorem State.leaveHold_env : (s.leaveHold).env = s.env := rfl

@[simp] theorem State.arithmetic_env : (s.arithmetic).env = s.env := rfl

@[simp] theorem State.checkHold_env : (s.checkHold).env = s.env := by
  unfold State.checkHold; (try dsimp only); repeat' split
  all_goals first | (simp; done) | (simp; rfl) | rfl

@[simp] theorem State.raiseFeed_env (t : Nat) : (s.raiseFeed t).env = s.env := rfl

@[simp] theorem State.lowerFeed_env (t : Nat) : (s.lowerFeed t).env = s.env := by
  unfold State.lowerFeed; dsimp only; split <;> simp

@[simp] theorem State.moveFeed_env (t : Nat) : (s.moveFeed t).env = s.env := by
  unfold State.moveFeed; (try dsimp only); repeat' split
  all_goals first | (simp; done) | (simp; rfl) | rfl

@[simp] theorem State.evaluateStep_env (p : Nat) : (s.evaluateStep p).env = s.env := by
  unfold State.evaluateStep; (try dsimp only); repeat' split
  all_goals first | (simp; done) | (simp; rfl) | rfl

@[simp] theorem State.evaluateWaiting_env : (s.evaluateWaiting).env = s.env := by
  unfold State.evaluateWaiting; exact foldl_env _ (fun s p => by simp) _ _

@[simp] theorem State.feedTail_env : (s.feedTail).env = s.env := by
  simp [State.feedTail]

@[simp] theorem State.takeTarget_env : (s.takeTarget).env = s.env := by
  unfold State.takeTarget; (try dsimp only); repeat' split
  all_goals first | (simp; done) | (simp; rfl) | rfl

@[simp] theorem State.feedChanged_env : (s.feedChanged).env = s.env := by
  simp [State.feedChanged]

@[simp] theorem State.setRequest_env (p c : Nat) : (s.setRequest p c).env = s.env := rfl

@[simp] theorem State.abandonFeedStep_env (p : Nat) : (s.abandonFeedStep p).env = s.env := rfl

@[simp] theorem State.requestFeed_env (p c : Nat) : (s.requestFeed p c).env = s.env := by
  simp [State.requestFeed]

@[simp] theorem State.detachFeed_env (g : Nat → Bool) : (s.detachFeed g).env = s.env := by
  simp [State.detachFeed]

@[simp] theorem State.settleExpires_env : (s.settleExpires).env = s.env := by
  unfold State.settleExpires; (try dsimp only); repeat' split
  all_goals first | (simp; done) | (simp; rfl) | rfl

@[simp] theorem State.lowerHoldExpires_env : (s.lowerHoldExpires).env = s.env := by
  simp [State.lowerHoldExpires]

@[simp] theorem State.zoneEvent_env (z : Zone) : (s.zoneEvent z).env = s.env := by
  unfold State.zoneEvent; (try dsimp only); repeat' split
  all_goals first | (simp; done) | (simp; rfl) | rfl

/-! ### Function translator -/


@[simp] theorem State.deriveCircuit_env (c : Nat) : (s.deriveCircuit c).env = s.env := by
  unfold State.deriveCircuit; (try dsimp only); repeat' split
  all_goals first | (simp; done) | (simp; rfl) | rfl

@[simp] theorem State.derivePoint_env (k : PointKey) : (s.derivePoint k).env = s.env := rfl

@[simp] theorem State.deriveTarget_env (t : Target) : (s.deriveTarget t).env = s.env := by
  unfold State.deriveTarget; (try dsimp only); repeat' split
  all_goals first | (simp; done) | (simp; rfl) | rfl

@[simp] theorem State.takeFunction_env (c v : Nat) : (s.takeFunction c v).env = s.env := by
  unfold State.takeFunction; dsimp only
  have h := fun l (x : State) => foldl_env State.deriveTarget (fun s t => by simp) l x
  repeat' split
  all_goals simp [h]
  all_goals rfl

@[simp] theorem State.bindRecord_env (k : PointKey) (c : OutClass) (n : Nat) : (s.bindRecord k c n).env = s.env := by
  unfold State.bindRecord; (try dsimp only); repeat' split
  all_goals first | (simp; done) | (simp; rfl) | rfl

@[simp] theorem State.bindEntry_env (e : MapEntry) : (s.bindEntry e).env = s.env := rfl

@[simp] theorem State.bind_env (e : MapEntry) (c : OutClass) (n : Nat) : (s.bind e c n).env = s.env := by
  unfold State.bind; (try dsimp only); repeat' split
  all_goals first | (simp; done) | (simp; rfl) | rfl

@[simp] theorem State.retireOrDerive_env (k : PointKey) : (s.retireOrDerive k).env = s.env := by
  unfold State.retireOrDerive; (try dsimp only); repeat' split
  all_goals first | (simp; done) | (simp; rfl) | rfl

@[simp] theorem State.afterRemoval_env (t : Target) : (s.afterRemoval t).env = s.env := by
  unfold State.afterRemoval; (try dsimp only); repeat' split
  all_goals first | (simp; done) | (simp; rfl) | rfl

@[simp] theorem State.removeEntries_env (o : MapEntry → Bool) : (s.removeEntries o).env = s.env := by
  unfold State.removeEntries; dsimp only
  rw [foldl_env _ (fun s t => by simp)]; rfl

@[simp] theorem State.unbind_env (c : Nat) (t : Target) : (s.unbind c t).env = s.env := by
  unfold State.unbind; (try dsimp only); repeat' split
  all_goals first | (simp; done) | (simp; rfl) | rfl

@[simp] theorem State.detachTranslator_env (g : Nat → Bool) : (s.detachTranslator g).env = s.env := rfl

@[simp] theorem State.grantWrite_env (r : OutRec) : (s.grantWrite r).env = s.env := rfl

@[simp] theorem State.writeAccepted_env (k : PointKey) : (s.writeAccepted k).env = s.env := by
  unfold State.writeAccepted; (try dsimp only); repeat' split
  all_goals first | (simp; done) | (simp; rfl) | rfl

@[simp] theorem State.writeRefused_env (k : PointKey) : (s.writeRefused k).env = s.env := by
  simp [State.writeRefused]

@[simp] theorem State.writeFailed_env (k : PointKey) : (s.writeFailed k).env = s.env := by
  simp [State.writeFailed]

@[simp] theorem State.writeReturned_env (k : PointKey) : (s.writeReturned k).env = s.env := by
  unfold State.writeReturned; (try dsimp only); repeat' split
  all_goals first | (simp; done) | (simp; rfl) | rfl

@[simp] theorem State.noteRunWrite_env (k : PointKey) (b : List Byte) : (s.noteRunWrite k b).env = s.env := by
  unfold State.noteRunWrite; (try dsimp only); repeat' split
  all_goals first | (simp; done) | (simp; rfl) | rfl

/-! ### Report scanner -/


@[simp] theorem State.bindReport_env (e : ReportEntry) : (s.bindReport e).env = s.env := rfl

@[simp] theorem State.unbindReport_env (k : PointKey) : (s.unbindReport k).env = s.env := rfl

@[simp] theorem State.releaseReports_env (p : Nat) : (s.releaseReports p).env = s.env := rfl

@[simp] theorem State.dropInitialReads_env (p : Nat) : (s.dropInitialReads p).env = s.env := rfl

@[simp] theorem State.finishRound_env : (s.finishRound).env = s.env := by
  unfold State.finishRound; (try dsimp only); repeat' split
  all_goals first | (simp; done) | (simp; rfl) | rfl

@[simp] theorem State.chooseWork_env : (s.chooseWork).env = s.env := by
  unfold State.chooseWork; (try dsimp only); repeat' split
  all_goals first | (simp; done) | (simp; rfl) | rfl

@[simp] theorem State.startRound_env : (s.startRound).env = s.env := by
  simp [State.startRound]

@[simp] theorem State.periodExpires_env : (s.periodExpires).env = s.env := by
  unfold State.periodExpires; (try dsimp only); repeat' split
  all_goals first | (simp; done) | (simp; rfl) | rfl

@[simp] theorem State.scanGranted_env (n : Nat) (w : ScanWork) : (s.scanGranted n w).env = s.env := by
  simp [State.scanGranted]

@[simp] theorem State.takeAttention_env (p : Nat) : (s.takeAttention p).env = s.env := by
  unfold State.takeAttention; (try dsimp only); repeat' split
  all_goals first | (simp; done) | (simp; rfl) | rfl

@[simp] theorem State.report_env (e : ReportEntry) (v : Nat) : (s.report e v).env = s.env := by
  simp [State.report]

@[simp] theorem State.deliverChange_env (k : PointKey) (v : Nat) : (s.deliverChange k v).env = s.env := by
  unfold State.deliverChange; (try dsimp only); repeat' split
  all_goals first | (simp; done) | (simp; rfl) | rfl

@[simp] theorem State.initialReadEnded_env (k : PointKey) (o : TxnOutcome) : (s.initialReadEnded k o).env = s.env := by
  unfold State.initialReadEnded; (try dsimp only); repeat' split
  all_goals first | (simp; done) | (simp; rfl) | rfl

@[simp] theorem State.changeListEnded_env (p : Nat) (e : Ended) : (s.changeListEnded p e).env = s.env := by
  unfold State.changeListEnded; dsimp only
  have h := fun l (x : State) => foldl_env (fun s (av : Nat × Nat) => s.deliverChange ⟨p, av.1⟩ av.2) (fun s t => by simp) l x
  split <;> simp [h]

@[simp] theorem State.scanEnded_env (w : ScanWork) (e : Ended) : (s.scanEnded w e).env = s.env := by
  unfold State.scanEnded; (try dsimp only); repeat' split
  all_goals first | (simp; done) | (simp; rfl) | rfl

@[simp] theorem State.detachScanner_env (g : Nat → Bool) : (s.detachScanner g).env = s.env := by
  simp [State.detachScanner]

@[simp] theorem State.scanReturned_env (w : ScanWork) (t : Txn) : (s.scanReturned w t).env = s.env := by
  unfold State.scanReturned; (try dsimp only); repeat' split
  all_goals first | (simp; done) | (simp; rfl) | rfl

@[simp] theorem State.scanDropped_env (t : Txn) : (s.scanDropped t).env = s.env := by
  simp [State.scanDropped]

@[simp] theorem State.restartScanner_env : (s.restartScanner).env = s.env := rfl

/-! ### Bring-up engine -/


@[simp] theorem State.enter_env (p : Nat) (st : PosState) : (s.enter p st).env = s.env := rfl

@[simp] theorem State.failRun_env (p : Nat) (c : Cause) : (s.failRun p c).env = s.env := rfl

@[simp] theorem State.endRun_env (p : Nat) : (s.endRun p).env = s.env := rfl

@[simp] theorem State.goTo_env (p i : Nat) : (s.goTo p i).env = s.env := by
  unfold State.goTo; (try dsimp only); repeat' split
  all_goals first | (simp; done) | (simp; rfl) | rfl

@[simp] theorem State.decideNext_env (p : Nat) (b : Option Int) : (s.decideNext p b).env = s.env := by
  unfold State.decideNext; (try dsimp only); repeat' split
  all_goals first | (simp; done) | (simp; rfl) | rfl

@[simp] theorem State.succeed_env (p : Nat) : (s.succeed p).env = s.env := by
  simp [State.succeed]

@[simp] theorem State.stepFault_env (p : Nat) (c : Cause) : (s.stepFault p c).env = s.env := by
  unfold State.stepFault; (try dsimp only); repeat' split
  all_goals first | (simp; done) | (simp; rfl) | rfl

@[simp] theorem State.completeStep_env (p : Nat) (v : Option Nat) (f : Option Cause) : (s.completeStep p v f).env = s.env := by
  unfold State.completeStep; (try dsimp only); repeat' split
  all_goals first | (simp; done) | (simp; rfl) | rfl

@[simp] theorem State.operate_env (p : Nat) (op : StepOp) : (s.operate p op).env = s.env := by
  unfold State.operate; (try dsimp only); repeat' split
  all_goals first | (simp; done) | (simp; rfl) | rfl

@[simp] theorem State.beginStep_env (p : Nat) : (s.beginStep p).env = s.env := by
  unfold State.beginStep; (try dsimp only); repeat' split
  all_goals first | (simp; done) | (simp; rfl) | rfl

@[simp] theorem State.doJob_env (j : Job) : (s.doJob j).env = s.env := by
  unfold State.doJob; (try dsimp only); repeat' split
  all_goals first | (simp; done) | (simp; rfl) | rfl

theorem State.drain_env (n : Nat) : (s.drain n).env = s.env := by
  induction n generalizing s with
  | zero => rfl
  | succ n ih =>
    unfold State.drain; split
    · rfl
    · rw [ih]; simp; rfl

@[simp] theorem State.settleJobs_env : (s.settleJobs).env = s.env := by
  exact State.drain_env s 4096

@[simp] theorem State.startRun_env (p n : Nat) : (s.startRun p n).env = s.env := by
  simp [State.startRun]

@[simp] theorem State.autoStart_env (p : Nat) : (s.autoStart p).env = s.env := by
  unfold State.autoStart; (try dsimp only); repeat' split
  all_goals first | (simp; done) | (simp; rfl) | rfl

@[simp] theorem State.autoStartAll_env : (s.autoStartAll).env = s.env := by
  unfold State.autoStartAll; exact foldl_env _ (fun s p => by simp) _ _

@[simp] theorem State.takeIdentity_env (p : Nat) (i : Identity) : (s.takeIdentity p i).env = s.env := by
  unfold State.takeIdentity; (try dsimp only); repeat' split
  all_goals first | (simp; done) | (simp; rfl) | rfl

@[simp] theorem State.identFailed_env (p : Nat) : (s.identFailed p).env = s.env := rfl

@[simp] theorem State.identifying_env (p : Nat) : (s.identifying p).env = s.env := rfl

@[simp] theorem State.rematch_env (p : Nat) : (s.rematch p).env = s.env := by
  unfold State.rematch; (try dsimp only); repeat' split
  all_goals first | (simp; done) | (simp; rfl) | rfl

@[simp] theorem State.rematchAll_env : (s.rematchAll).env = s.env := by
  unfold State.rematchAll; exact foldl_env _ (fun s p => by simp) _ _

@[simp] theorem State.trafficFault_env (p : Nat) (c : Cause) : (s.trafficFault p c).env = s.env := by
  unfold State.trafficFault; (try dsimp only); repeat' split
  all_goals first | (simp; done) | (simp; rfl) | rfl

@[simp] theorem State.engineGranted_env (p n : Nat) : (s.engineGranted p n).env = s.env := rfl

@[simp] theorem State.takeRead_env (p : Nat) (b : List Byte) : (s.takeRead p b).env = s.env := by
  unfold State.takeRead; (try dsimp only); repeat' split
  all_goals first | (simp; done) | (simp; rfl) | rfl

@[simp] theorem State.linkFailure_env (p : Nat) (c : Cause) : (s.linkFailure p c).env = s.env := by
  unfold State.linkFailure; (try dsimp only); repeat' split
  all_goals first | (simp; done) | (simp; rfl) | rfl

@[simp] theorem State.nodeAnswered_env (p : Nat) (st : InitialStatus) : (s.nodeAnswered p st).env = s.env := by
  unfold State.nodeAnswered; (try dsimp only); repeat' split
  all_goals first | (simp; done) | (simp; rfl) | rfl

@[simp] theorem State.lengthEnded_env (p r : Nat) (b : List Byte) : (s.lengthEnded p r b).env = s.env := by
  unfold State.lengthEnded; (try dsimp only); repeat' split
  all_goals first | (simp; done) | (simp; rfl) | rfl

@[simp] theorem State.noteIfWrite_env (e : Ended) : (s.noteIfWrite e).env = s.env := by
  unfold State.noteIfWrite; (try dsimp only); repeat' split
  all_goals first | (simp; done) | (simp; rfl) | rfl

@[simp] theorem State.stepEnded_env (p : Nat) (e : Ended) : (s.stepEnded p e).env = s.env := by
  unfold State.stepEnded; (try dsimp only); repeat' split
  all_goals first | (simp; done) | (simp; rfl) | rfl

@[simp] theorem State.engineEnded_env (e : Ended) : (s.engineEnded e).env = s.env := by
  unfold State.engineEnded; (try dsimp only); repeat' split
  all_goals first | (simp; done) | (simp; rfl) | rfl

@[simp] theorem State.engineReturned_env (t : Txn) : (s.engineReturned t).env = s.env := by
  unfold State.engineReturned; (try dsimp only); repeat' split
  all_goals first | (simp; done) | (simp; rfl) | rfl

@[simp] theorem State.busyRetry_env (p : Nat) : (s.busyRetry p).env = s.env := rfl

@[simp] theorem State.waitOver_env (p : Nat) : (s.waitOver p).env = s.env := by
  simp [State.waitOver]

@[simp] theorem State.stopRun_env (p : Nat) : (s.stopRun p).env = s.env := by
  simp [State.stopRun]

@[simp] theorem State.stopAllRuns_env : (s.stopAllRuns).env = s.env := by
  unfold State.stopAllRuns; exact foldl_env _ (fun s p => by split <;> simp) _ _

@[simp] theorem State.detachEngine_env (g : Nat → Bool) : (s.detachEngine g).env = s.env := by
  unfold State.detachEngine; exact foldl_env _ (fun s p => by split <;> simp) _ _

@[simp] theorem State.restartEngine_env : (s.restartEngine).env = s.env := rfl

/-! ### Link controller, enumerator, arbiter -/


@[simp] theorem State.startTxn_env (t : Txn) : (s.startTxn t).env = s.env := rfl

@[simp] theorem State.useLine_env : (s.useLine).env = s.env := by
  unfold State.useLine; (try dsimp only); repeat' split
  all_goals first | (simp; done) | (simp; rfl) | rfl

@[simp] theorem State.droppedByBreak_env (t : Txn) : (s.droppedByBreak t).env = s.env := by
  unfold State.droppedByBreak; (try dsimp only); repeat' split
  all_goals first | (simp; done) | (simp; rfl) | rfl

@[simp] theorem State.requestBreak_env : (s.requestBreak).env = s.env := by
  unfold State.requestBreak; (try dsimp only); repeat' split
  all_goals first | (simp; done) | (simp; rfl) | rfl

@[simp] theorem State.cancelBreak_env : (s.cancelBreak).env = s.env := rfl

@[simp] theorem State.restartLink_env : (s.restartLink).env = s.env := by
  unfold State.restartLink; (try dsimp only); repeat' split
  all_goals first | (simp; done) | (simp; rfl) | rfl

@[simp] theorem State.detach_env (j : Nat) (c : Cause) : (s.detach j c).env = s.env := by
  unfold State.detach; dsimp only; split
  · rfl
  · simp only [State.detachLamps_env, State.markFeedPlace_env, State.detachFeed_env, State.detachScanner_env,
      State.detachTranslator_env, State.detachEngine_env, State.modifyLink_env]
    rw [foldl_env _ (fun s p => by simp)]; simp

@[simp] theorem State.lose_env (p : Nat) : (s.lose p).env = s.env := by
  simp [State.lose]

@[simp] theorem State.countMiss_env (p : Nat) (o : TxnOutcome) : (s.countMiss p o).env = s.env := by
  unfold State.countMiss; (try dsimp only); repeat' split
  all_goals first | (simp; done) | (simp; rfl) | rfl

@[simp] theorem State.enumerate_env : (s.enumerate).env = s.env := by
  unfold State.enumerate; (try dsimp only); repeat' split
  all_goals first | (simp; done) | (simp; rfl) | rfl

@[simp] theorem State.disconnect_env : (s.disconnect).env = s.env := by
  unfold State.disconnect; (try dsimp only); repeat' split
  all_goals first | (simp; done) | (simp; rfl) | rfl

@[simp] theorem State.restartEnumerator_env : (s.restartEnumerator).env = s.env := rfl

@[simp] theorem State.halt_env (c : Cause) : (s.halt c).env = s.env := by
  unfold State.halt; (try dsimp only); repeat' split
  all_goals first | (simp; done) | (simp; rfl) | rfl

@[simp] theorem State.failedAttempt_env (c : Cause) : (s.failedAttempt c).env = s.env := by
  unfold State.failedAttempt; (try dsimp only); repeat' split
  all_goals first | (simp; done) | (simp; rfl) | rfl

@[simp] theorem State.busyAttempt_env : (s.busyAttempt).env = s.env := by
  unfold State.busyAttempt; (try dsimp only); repeat' split
  all_goals first | (simp; done) | (simp; rfl) | rfl

@[simp] theorem State.enumFailure_env (o : TxnOutcome) : (s.enumFailure o).env = s.env := by
  unfold State.enumFailure; (try dsimp only); repeat' split
  all_goals first | (simp; done) | (simp; rfl) | rfl

@[simp] theorem State.occupy_env : (s.occupy).env = s.env := by
  simp [State.occupy]

@[simp] theorem State.assignEnded_env (o : TxnOutcome) : (s.assignEnded o).env = s.env := by
  unfold State.assignEnded; (try dsimp only); repeat' split
  all_goals first | (simp; done) | (simp; rfl) | rfl

@[simp] theorem State.identityEnded_env (o : TxnOutcome) : (s.identityEnded o).env = s.env := by
  unfold State.identityEnded; (try dsimp only); repeat' split
  all_goals first | (simp; done) | (simp; rfl) | rfl

@[simp] theorem State.downstreamRead_env (q : Nat) (b : Bool) : (s.downstreamRead q b).env = s.env := by
  unfold State.downstreamRead; (try dsimp only); repeat' split
  all_goals first | (simp; done) | (simp; rfl) | rfl

@[simp] theorem State.checkEnded_env (o : TxnOutcome) : (s.checkEnded o).env = s.env := by
  unfold State.checkEnded; (try dsimp only); repeat' split
  all_goals first | (simp; done) | (simp; rfl) | rfl

@[simp] theorem State.closeEnded_env (o : TxnOutcome) : (s.closeEnded o).env = s.env := by
  unfold State.closeEnded; (try dsimp only); repeat' split
  all_goals first | (simp; done) | (simp; rfl) | rfl

@[simp] theorem State.enumEnded_env (e : Ended) : (s.enumEnded e).env = s.env := by
  unfold State.enumEnded; (try dsimp only); repeat' split
  all_goals first | (simp; done) | (simp; rfl) | rfl

@[simp] theorem State.enumReturned_env (t : Txn) : (s.enumReturned t).env = s.env := by
  unfold State.enumReturned; (try dsimp only); repeat' split
  all_goals first | (simp; done) | (simp; rfl) | rfl

@[simp] theorem State.takeDownstream_env (q : Nat) : (s.takeDownstream q).env = s.env := by
  unfold State.takeDownstream; (try dsimp only); repeat' split
  all_goals first | (simp; done) | (simp; rfl) | rfl

@[simp] theorem State.writeEnded_env (e : Ended) : (s.writeEnded e).env = s.env := by
  unfold State.writeEnded; (try dsimp only); repeat' split
  all_goals first | (simp; done) | (simp; rfl) | rfl

@[simp] theorem State.deliver_env (e : Ended) : (s.deliver e).env = s.env := by
  unfold State.deliver; (try dsimp only); repeat' split
  all_goals first | (simp; done) | (simp; rfl) | rfl

@[simp] theorem State.handAttention_env (e : Ended) : (s.handAttention e).env = s.env := by
  unfold State.handAttention; (try dsimp only); repeat' split
  all_goals first | (simp; done) | (simp; rfl) | rfl

@[simp] theorem State.handDownstream_env (e : Ended) : (s.handDownstream e).env = s.env := by
  unfold State.handDownstream; (try dsimp only); repeat' split
  all_goals first | (simp; done) | (simp; rfl) | rfl

@[simp] theorem State.handMiss_env (t : Txn) (o : TxnOutcome) : (s.handMiss t o).env = s.env := by
  unfold State.handMiss; (try dsimp only); repeat' split
  all_goals first | (simp; done) | (simp; rfl) | rfl

@[simp] theorem State.endTransaction_env (l : OnLine) (o : TxnOutcome) : (s.endTransaction l o).env = s.env := by
  unfold State.endTransaction; (try dsimp only); repeat' split
  all_goals first | (simp; done) | (simp; rfl) | rfl

@[simp] theorem State.returned_env (t : Txn) : (s.returned t).env = s.env := by
  unfold State.returned; (try dsimp only); repeat' split
  all_goals first | (simp; done) | (simp; rfl) | rfl

@[simp] theorem State.cutLine_env : (s.cutLine).env = s.env := by
  unfold State.cutLine; (try dsimp only); repeat' split
  all_goals first | (simp; done) | (simp; rfl) | rfl

@[simp] theorem State.emptySlot_env : (s.emptySlot).env = s.env := by
  unfold State.emptySlot; (try dsimp only); repeat' split
  all_goals first | (simp; done) | (simp; rfl) | rfl

@[simp] theorem State.resetLink_env : (s.resetLink).env = s.env := by
  simp [State.resetLink]

@[simp] theorem State.granted_env (g : Standing) (n : Nat) : (s.granted g n).env = s.env := by
  unfold State.granted; (try dsimp only); repeat' split
  all_goals first | (simp; done) | (simp; rfl) | rfl

@[simp] theorem State.grant_env (g : Standing) : (s.grant g).env = s.env := by
  simp [State.grant]

@[simp] theorem State.arbitrate_env : (s.arbitrate).env = s.env := by
  unfold State.arbitrate; (try dsimp only); repeat' split
  all_goals first | (simp; done) | (simp; rfl) | rfl

@[simp] theorem State.serveLine_env : (s.serveLine).env = s.env := by
  simp [State.serveLine]

/-- The close of an event changes the Notice Queue and its flag alone in this part. -/
theorem State.closeEvent_env :
    ∃ ns : List Notice, (s.closeEvent).env = { s.env with cab := ns.foldl CabPort.placeNotice s.env.cab } := by
  have h := State.placeNotices_env (s.settleJobs.modifyEnum (·.takeUp)).serveLine
  simp only [State.serveLine_env, State.modifyEnum_env, State.settleJobs_env] at h
  exact ⟨_, h⟩

/-- An event whose change keeps this part only places notices in it. -/
theorem State.event_env (f : State → State) (h : ∀ x : State, (f x).env = x.env) :
    ∃ ns : List Notice, (s.event f).env = { s.env with cab := ns.foldl CabPort.placeNotice s.env.cab } := by
  obtain ⟨ns, hn⟩ := State.closeEvent_env (f s.openEvent)
  exact ⟨ns, by simp [State.event, hn, h]⟩

end Sys2Proof.Machine
end

