-- ==== Sys2Proof/Laws/Handed.lean ====
section
/-! SUPPORT. What the evaluation of one waiting step and a trip hand to the engine. -/

namespace Sys2Proof.Machine

/-- Handing over one job after another puts them behind those that stand, in their order, and does nothing else. -/
theorem State.foldl_hand {α : Type} (f : α → Job) (l : List α) (s : State) :
    l.foldl (fun s x => s.hand (f x)) s = { s with ev := { s.ev with jobs := s.ev.jobs ++ l.map f } } := by
  induction l generalizing s with
  | nil => simp
  | cons x l ih => rw [List.foldl_cons, ih]; simp [State.hand]

/-- The evaluation of one waiting step (R149): a class that the budget class has reached completes it, and so does, with
FEED_CLAMPED, a movement other than SETTLING; else nothing changes. -/
theorem State.evaluateStep_cases (s : State) (p : Nat) :
    let done := fun fault => { s with
      feed := { s.feed with waiting := s.feed.waiting.filter (· != p) }
      ev := { s.ev with jobs := s.ev.jobs ++ [.complete p (some s.feed.budget) fault] } }
    (s.feed.requests.get p ≤ s.feed.budget ∧ s.evaluateStep p = done none) ∨
    (s.feed.budget < s.feed.requests.get p ∧ s.feed.movement ≠ .settling ∧
      s.evaluateStep p = done (some .feedClamped)) ∨
    (s.feed.budget < s.feed.requests.get p ∧ s.feed.movement = .settling ∧ s.evaluateStep p = s) := by
  by_cases h : s.feed.requests.get p ≤ s.feed.budget
  · exact .inl ⟨h, by simp [State.evaluateStep, Feed.finding, h, State.hand, State.modifyFeed]⟩
  · by_cases m : s.feed.movement = .settling
    · exact .inr (.inr ⟨by omega, m, by simp [State.evaluateStep, Feed.finding, h, m]⟩)
    · exact .inr (.inl ⟨by omega, m, by simp [State.evaluateStep, Feed.finding, h, m, State.hand, State.modifyFeed]⟩)

/-- A trip sets its circuit's record and its notice, and hands over the completions of the holder and of the waiters (R152). -/
theorem State.trip_eq (s : State) (c : Nat) :
    let x := s.circuit c
    let t := (s.setCircuit c (x.tripped s.now)).note (.circuit c .shorted 0)
    let done := x.probes.map (fun w => Job.complete w.pos none (some .circuitFault))
    s.trip c = { t with ev := { t.ev with jobs := s.ev.jobs ++ done } } :=
  State.foldl_hand _ _ _

end Sys2Proof.Machine
end

