-- ==== Sys2Proof/Laws/Lamps.lean ====
section
/-! SUPPORT. What a derivation and its handover make of a circuit, and what they note; who holds and awaits a probe. -/

namespace Sys2Proof.Machine

/-- A handover that differs from the state handed over last does what R151 and R153 give. -/
theorem Circuit.handover_follows (x : Circuit) (now : Nat) (on : Bool) (h : on ≠ x.requested) :
    x.followsHandover (x.handover now on) now on := by
  refine ⟨fun h' => absurd h' h, fun _ => ⟨fun hl hp => ?_, fun hl hp => ?_, fun hl ho => ?_, fun hl ho => ?_⟩⟩
  · cases on <;> cases hx : x.output <;> simp [Circuit.handover, Circuit.drive, hl, hp, hx]
  · simp [Circuit.handover, hl, hp]
  · simp [Circuit.handover, hl, ho]
  · simp [Circuit.handover, Circuit.clearCounters, hl, ho]

/-- A derivation touches its own circuit alone, and that one follows the handover. -/
theorem State.deriveCircuit_circuit (s : State) (c d : Nat) (hc : 1 ≤ c) (hd : 1 ≤ d) (hl : c ≤ s.lamps.circuits.length) :
    (d ≠ c → (s.deriveCircuit c).circuit d = s.circuit d) ∧
    (s.circuit c).followsHandover ((s.deriveCircuit c).circuit c) s.now (s.requestedState c) := by
  unfold State.deriveCircuit
  simp only
  split
  · exact ⟨fun _ => rfl, fun _ => rfl, fun h => absurd ‹_› h⟩
  · have key : ∀ e, 1 ≤ e → (s.handover c (s.requestedState c)).circuit e =
        if e = c then (s.circuit c).handover s.now (s.requestedState c) else s.circuit e := fun e he => by
      unfold State.handover
      simp only
      split
      · exact State.circuit_setCircuit (s := s) c e _ hc he hl
      · exact State.circuit_setCircuit (s := s) c e _ hc he hl
    refine ⟨fun h => by rw [key d hd, if_neg h], ?_⟩
    rw [key c hc, if_pos rfl]
    exact Circuit.handover_follows _ _ _ ‹_›

/-- The notice of a derivation is that of a short it clears. -/
theorem State.deriveCircuit_notices (s : State) (c : Nat) :
    (s.deriveCircuit c).ev.notices =
      s.ev.notices ++ ((s.circuit c).clearNotices c (s.requestedState c)).map .other := by
  unfold State.deriveCircuit State.handover Circuit.clearNotices
  simp only
  cases hr : s.requestedState c <;> cases hq : (s.circuit c).requested <;> by_cases hl : (s.circuit c).lamp = .shorted <;>
    simp [hl, State.note, State.setCircuit]

/-! ### Who holds and awaits a probe (R150, R160) -/

/-- What a request for a probe does, by the circuit's record (R160). -/
theorem State.requestProbe_cases (s : State) (c : Nat) (pr : Probe) :
    let x := s.circuit c
    (x.lamp = .shorted ∧ s.requestProbe c pr = s.hand (.complete pr.pos none (some .circuitFault))) ∨
    (x.lamp ≠ .shorted ∧ x.admits pr.pos = false ∧ s.requestProbe c pr = s) ∨
    (x.lamp ≠ .shorted ∧ x.admits pr.pos = true ∧ x.holder.isSome ∧
      s.requestProbe c pr = s.setCircuit c { x with waiters := x.waiters ++ [pr] }) ∨
    (x.lamp ≠ .shorted ∧ x.admits pr.pos = true ∧ x.holder = none ∧ s.requestProbe c pr = serveProbes c [pr] s) := by
  by_cases hl : (s.circuit c).lamp = .shorted
  · exact .inl ⟨hl, by simp [State.requestProbe, hl]⟩
  · by_cases ha : (s.circuit c).admits pr.pos = true
    · cases hh : (s.circuit c).holder with
      | none => exact .inr (.inr (.inr ⟨hl, ha, hh, by simp [State.requestProbe, hl, ha, hh]⟩))
      | some h => exact .inr (.inr (.inl ⟨hl, ha, by simp [hh], by simp [State.requestProbe, hl, ha, hh]⟩))
    · exact .inr (.inl ⟨hl, by simpa using ha, by simp [State.requestProbe, hl, ha]⟩)

/-- A position that the circuit admits joins without making a duplicate. -/
theorem Circuit.probesGood_join (x : Circuit) (pr : Probe) (h : x.probesGood) (ha : x.admits pr.pos = true) :
    ({ x with waiters := x.waiters ++ [pr] } : Circuit).probesGood := by
  obtain ⟨hp, hn⟩ : positionOk pr.pos = true ∧ ∀ w ∈ x.probes, w.pos ≠ pr.pos := by simpa [Circuit.admits] using ha
  have e : ({ x with waiters := x.waiters ++ [pr] } : Circuit).probes = x.probes ++ [pr] := by simp [Circuit.probes]
  refine ⟨?_, fun w hw => ?_⟩
  · rw [e, List.map_append, List.nodup_append]
    refine ⟨h.1, by simp, ?_⟩
    simpa using hn
  · rw [e] at hw
    rcases List.mem_append.1 hw with hw | hw
    · exact h.2 w hw
    · obtain rfl : w = pr := by simpa using hw
      simpa [positionOk] using hp

/-- A record whose probes are some of those of a good one, in their order, is good. -/
theorem Circuit.probesGood_of_sublist {x y : Circuit} (h : x.probesGood) (hs : y.probes.Sublist x.probes) : y.probesGood :=
  ⟨(hs.map _).nodup h.1, fun w hw => h.2 w (hs.subset hw)⟩

end Sys2Proof.Machine
end

