-- ==== Sys2Proof/Laws/Settled.lean ====
section
/-! SUPPORT. What the close of an event does when nothing is left to do: a state that agrees with a settled one on the chain,
the arbiter, the records that can request a grant, and holds no work of the engine, only places its notices. -/

namespace Sys2Proof.Machine

theorem foldl_id (f : State → α → State) (l : List α) (s : State) (h : ∀ a ∈ l, f s a = s) : l.foldl f s = s := by
  induction l with
  | nil => rfl
  | cons a as ih =>
    rw [List.foldl_cons, h a (by simp)]
    exact ih (fun b hb => h b (by simp [hb]))

theorem State.drain_nil (n : Nat) (s : State) (h : s.ev.jobs = []) : s.drain n = s := by
  cases n <;> simp [State.drain, h]

theorem State.settleJobs_nil (s : State) (h : s.ev.jobs = []) : s.settleJobs = s := State.drain_nil 4096 s h

/-- A settled state's line and grants are served already. -/
theorem State.serveLine_settled (s : State)
    (h2 : s.link.free = true → s.link.slot = none ∧ s.link.breakRequested = false)
    (h3 : s.mayGrant = true → s.nextGrant = none) : s.serveLine = s := by
  have hu : s.useLine = s := by
    unfold State.useLine
    split
    · rename_i hf
      obtain ⟨ha, hb⟩ := h2 hf
      simp [ha, hb]
    · rfl
  have ha : s.arbitrate = s := by
    unfold State.arbitrate
    split
    · rename_i hm
      simp [h3 hm]
    · rfl
  simp [State.serveLine, hu, ha]

theorem Enumerator.takeUp_done (e : Enumerator) (h : e.state = .done → e.pendingChecks = []) : e.takeUp = e := by
  unfold Enumerator.takeUp
  split
  · rename_i hs hp
    rw [h hs] at hp
    cases hp
  · rfl

/-- What a grant depends on is the same in both states. -/
def State.sameRequests (s t : State) : Prop :=
  t.link = s.link ∧ t.enumerator = s.enumerator ∧ t.arbiter = s.arbiter ∧ t.pcrs = s.pcrs ∧
  t.translator = s.translator ∧ t.scanner = s.scanner

theorem State.closeEvent_settled (s t : State) (hs : s.settled) (h : s.sameRequests t) (hj : t.ev.jobs = []) :
    t.closeEvent = t.placeNotices := by
  obtain ⟨h1, h2, h3, h4, h5⟩ := hs
  obtain ⟨a, b, c, d, e, f⟩ := h
  have hk : t.mayGrant = s.mayGrant := by simp only [State.mayGrant, a]
  have hf : t.findOut = s.findOut := funext fun k => by simp only [State.findOut, e]
  have hst : ∀ n, t.standing n = s.standing n := by
    intro n
    unfold State.standing
    split <;> simp only [b, c, f, State.queueHead, hf, e, State.nextStep, State.pcr, d]
  have hg : t.nextGrant = s.nextGrant := by
    unfold State.nextGrant
    rw [show t.standing = s.standing from funext hst]
  unfold State.closeEvent
  rw [State.settleJobs_nil t hj]
  have hm : t.modifyEnum (·.takeUp) = t := by
    simp only [State.modifyEnum, Enumerator.takeUp_done t.enumerator (by rw [b]; exact h4)]
  rw [hm, State.serveLine_settled t (by rw [a]; exact h2) (by rw [hk, hg]; exact h3)]

end Sys2Proof.Machine
end

