-- ==== Sys2Proof/Laws/Requests.lean ====
section
/-! SUPPORT. How a request comes to its reply: one lemma for a refusal, one for an answer without an event, one for an answer
that is an event. -/

namespace Sys2Proof.Machine

theorem State.heard_full (s : State) (h : s.hasRoom) : s.heard.cab.full = false := by
  exact decide_eq_false (Nat.not_le.mpr h)

/-- A request that finds room is executed (R164). -/
theorem State.request_room (s : State) (h : s.hasRoom) (tag code : Byte) (f : State → Answer) :
    s.heard.request tag code f = (f s.heard).reply tag code := by
  unfold State.request
  rw [State.heard_full s h]
  rfl

/-- A request that finds four replies waiting is dropped (R179). -/
theorem State.request_full (s : State) (h : ¬ s.hasRoom) (tag code : Byte) (f : State → Answer) :
    s.heard.request tag code f = { s with cab := { s.cab with gathered := [], requestsDropped := true } } := by
  have : s.heard.cab.full = true := decide_eq_true (Nat.not_lt.mp h)
  unfold State.request
  rw [this]
  rfl

theorem State.refuse_reply (s : State) (r : Result) (tag code : Byte) :
    (s.heard.refuse r).reply tag code = s.answered ⟨tag, code, r, []⟩ := rfl

theorem State.accept_reply (s : State) (d : List Byte) (tag code : Byte) :
    (s.heard.accept d).reply tag code = s.answered ⟨tag, code, .ok, d⟩ := rfl

/-- What a reply leaves when the request kept the cab port but for its notices and reports. -/
theorem Answer.repliesWith (a : Answer) (s : State) (tag code : Byte) (hr : a.state.cab.replies = s.cab.replies)
    (hs : a.state.cab.sending = s.cab.sending) (hg : a.state.cab.gathered = []) :
    s.repliesWith (a.reply tag code) ⟨tag, code, a.result, a.data⟩ := by
  unfold State.repliesWith Answer.reply State.transmit State.modifyCab State.answered CabPort.placeReply CabPort.take
  simp only [hr, hs]
  cases s.cab.sending with
  | some f => exact ⟨hg, rfl, rfl⟩
  | none =>
    cases h : s.cab.replies with
    | nil => exact ⟨hg, rfl, rfl⟩
    | cons r rs => exact ⟨hg, rfl, rfl⟩

/-- A reply changes nothing but the cab port. -/
@[simp] theorem Answer.reply_now (a : Answer) (t c : Byte) : (a.reply t c).now = a.state.now := rfl
@[simp] theorem Answer.reply_coupling (a : Answer) (t c : Byte) : (a.reply t c).coupling = a.state.coupling := rfl
@[simp] theorem Answer.reply_enumerator (a : Answer) (t c : Byte) : (a.reply t c).enumerator = a.state.enumerator := rfl
@[simp] theorem Answer.reply_link (a : Answer) (t c : Byte) : (a.reply t c).link = a.state.link := rfl
@[simp] theorem Answer.reply_arbiter (a : Answer) (t c : Byte) : (a.reply t c).arbiter = a.state.arbiter := rfl
@[simp] theorem Answer.reply_profiles (a : Answer) (t c : Byte) : (a.reply t c).profiles = a.state.profiles := rfl
@[simp] theorem Answer.reply_steps (a : Answer) (t c : Byte) : (a.reply t c).steps = a.state.steps := rfl
@[simp] theorem Answer.reply_pcrs (a : Answer) (t c : Byte) : (a.reply t c).pcrs = a.state.pcrs := rfl
@[simp] theorem Answer.reply_translator (a : Answer) (t c : Byte) : (a.reply t c).translator = a.state.translator := rfl
@[simp] theorem Answer.reply_scanner (a : Answer) (t c : Byte) : (a.reply t c).scanner = a.state.scanner := rfl
@[simp] theorem Answer.reply_feed (a : Answer) (t c : Byte) : (a.reply t c).feed = a.state.feed := rfl
@[simp] theorem Answer.reply_lamps (a : Answer) (t c : Byte) : (a.reply t c).lamps = a.state.lamps := rfl
@[simp] theorem Answer.reply_params (a : Answer) (t c : Byte) : (a.reply t c).params = a.state.params := rfl
@[simp] theorem Answer.reply_ev (a : Answer) (t c : Byte) : (a.reply t c).ev = a.state.ev := rfl
@[simp] theorem Answer.reply_pending (a : Answer) (t c : Byte) : (a.reply t c).pending = a.state.pending := rfl

/-- The notices an event places keep the replies, the frame being sent and the receiver. -/
theorem State.env_replies (s t : State) (ns : List Notice)
    (h : t.env = { s.env with cab := ns.foldl CabPort.placeNotice s.env.cab }) :
    t.cab.replies = s.cab.replies ∧ t.cab.sending = s.cab.sending ∧ t.cab.gathered = s.cab.gathered ∧
    t.cab.requestsDropped = s.cab.requestsDropped ∧ t.cab.frameError = s.cab.frameError := by
  have k := CabPort.placeNotices_keeps ns s.env.cab
  have hc : t.cab.apart = ns.foldl CabPort.placeNotice s.env.cab := congrArg Env.cab h
  refine ⟨?_, ?_, ?_, ?_, ?_⟩
  · have := congrArg CabPort.replies hc; rw [k.1] at this; exact this
  · have := congrArg CabPort.sending hc; rw [k.2.1] at this; exact this
  · have := congrArg CabPort.gathered hc; rw [k.2.2.1] at this; exact this
  · have := congrArg CabPort.requestsDropped hc; rw [k.2.2.2.2.1] at this; exact this
  · have := congrArg CabPort.frameError hc; rw [k.2.2.2.2.2.1] at this; exact this

/-- An event keeps the stores, the coupling levels, the inputs and the clock when its change does. -/
theorem State.event_inputs (s : State) (f : State → State) (h : ∀ x : State, (f x).env = x.env) :
    s.keepsInputs (s.event f) ∧ (s.event f).now = s.now ∧ (s.event f).cab.replies = s.cab.replies ∧
    (s.event f).cab.sending = s.cab.sending ∧ (s.event f).cab.gathered = s.cab.gathered := by
  obtain ⟨ns, hn⟩ := State.event_env s f h
  have hr := State.env_replies s _ ns hn
  refine ⟨⟨⟨?_, ?_, ?_⟩, ?_, ?_, ?_⟩, ?_, hr.1, hr.2.1, hr.2.2.1⟩
  · exact congrArg Env.profiles hn
  · exact congrArg Env.steps hn
  · exact congrArg Env.params hn
  · exact congrArg Env.coupling hn
  · exact congrArg Env.sensed hn
  · exact congrArg Env.pending hn
  · exact congrArg Env.now hn

/-- The same, with the transmitter behind it. -/
theorem State.happens_inputs (s : State) (f : State → State) (h : ∀ x : State, (f x).env = x.env) :
    s.keepsInputs (s.happens f) ∧ (s.happens f).now = s.now := by
  obtain ⟨a, b, _⟩ := State.event_inputs s f h
  exact ⟨a, b⟩

/-- A request that is one event, answered: what it keeps and what it leaves at the cab port. -/
theorem State.event_answered (s : State) (f : State → State) (h : ∀ x : State, (f x).env = x.env) (d : List Byte)
    (tag code : Byte) :
    let t := ((s.heard.event f).accept d).reply tag code
    s.repliesWith t ⟨tag, code, .ok, d⟩ ∧ s.keepsInputs t ∧ t.now = s.now := by
  obtain ⟨a, b, c, e, g⟩ := State.event_inputs s.heard f h
  refine ⟨?_, a, b⟩
  exact Answer.repliesWith _ s tag code c e g

end Sys2Proof.Machine
end

