-- ==== Sys2Proof/Tests/Slice0.lean ====
section
/-! SUPPORT. Tests of the model: ill-formed commands, cases whose answer the manual itself works out, and, for every
statement with hypotheses, a state and operands that meet them, clause by clause. -/

namespace Sys2Proof.Tests

open Sys2Proof Sys2Proof.Machine

/-! ### Well-formedness -/

theorem test_wellFormed_loadSteps : (Instr.loadSteps 0 0 (List.replicate 4 ⟨3, 0, 0, 0, 0, 0, 0, 0⟩)).wellFormed = false := by
  decide
theorem test_wellFormed_frameDropped : (Instr.cabFrameDropped .badCheck (List.replicate 36 0)).wellFormed = false := by decide
theorem test_wellFormed_busyRetry : (Instr.busyRetryTimerExpiry 5).wellFormed = false := by decide
theorem test_wellFormed_wait : (Instr.waitTimerExpiry 0).wellFormed = false := by decide
theorem test_wellFormed_trip : (Instr.driverOvercurrentTrip 11).wellFormed = false := by decide
theorem test_wellFormed_lampCheck : (Instr.lampCheckTimerExpiry [1, 2]).wellFormed = false := by decide
theorem test_wellFormed_probe : (Instr.probePulseExpiry 0 100).wellFormed = false := by decide

/-! ### States for the tests -/

/-- A position that waits for its run, matched to slot 0. -/
def waiting : Pcr := { Pcr.empty with state := .waiting, identity := some ⟨7, 3, 20⟩, profileSlot := some 0 }

/-- A position at step i of a run. -/
def running (i : Nat) (phase : StepPhase) : Pcr :=
  { waiting with state := .bringingUp, stepIndex := some i, phase := phase, executed := 1 }

def held (i : Nat) : Pcr := { running i .idle with state := .held }

/-- k positions behind a present, locked coupling, all waiting. -/
def chained (k : Nat) : State :=
  let at? := fun p => if p ≤ k then waiting else Pcr.empty
  { State.reset with
    coupling := { State.reset.coupling with rawPresence := true, presence := true, rawLock := true, lock := true }
    enumerator := { State.reset.enumerator with state := .done, occupancy := k }
    pcrs := ⟨at? 1, at? 2, at? 3, at? 4⟩ }

/-- A profile of four steps at index 0 in slot 0, and its steps. -/
def loaded (ds : List Descriptor) (s : State) : State :=
  { s with
    profiles := s.profiles.set 0
      { valid := true, typeCode := 7, revLow := 0, revHigh := 9, firstStep := 0, stepCount := 4, fallback := true }
    steps := ds ++ s.steps.drop ds.length }

def atPos (p : Nat) (x : Pcr) (s : State) : State := { s with pcrs := s.pcrs.set p x }

def flagsOf (chain critical suppress : Bool) : StepFlags :=
  { chain := chain, critical := critical, suppress := suppress, skip := false, notify := false }

/-- A run of position p at index 0, at a step of its own. -/
def atStep (p : Nat) (phase : StepPhase) (f : StepFlags) (op : StepOp) : State :=
  loaded [.step f op, .step (flagsOf true false false) (.wait 5)] (atPos p (running 0 phase) (chained 4))

def txn (kind : TxnKind) (address point count : Nat) (send : List Byte) : Txn :=
  { serial := 0, requester := .engine, address := address, kind := kind, point := point, count := count, send := send
    stale := false }

def onLine (phase : LinkPhase) (t : Txn) : OnLine :=
  { txn := t, phase := phase, received := [], initial := none, ending := none, attention := false
    downstreamChange := false, startedAt := 0, windowEnd := 680 }

def withLine (l : OnLine) (s : State) : State := { s with link := { s.link with line := some l } }

/-- A word of good parity. -/
def word (marked : Bool) (b : Byte) : NodeWord := ⟨marked, b, ones b % 2 == 0⟩

def withCircuit (c : Nat) (x : Circuit) (s : State) : State :=
  { s with lamps := { s.lamps with circuits := s.lamps.circuits.set (c - 1) x } }

def lit : Circuit := { Circuit.off with requested := true, output := true }

def record (point : Nat) (cls : OutClass) (nominal requested : Nat) : OutRec :=
  { key := ⟨1, point⟩, cls := cls, nominal := nominal, requested := requested, applied := 0, accepted := none
    faulted := false, retiring := false, write := .idle, inFlight := none }

/-- The five records of section 7.8 at a budget class. -/
def fiveLoads (budget : Nat) (more : List OutRec) : State :=
  { chained 2 with
    translator := { State.reset.translator with
      points := [record 7 .safety 1200 255, record 9 .safety 900 255, record 13 .comfort 1500 255,
        record 15 .comfort 2400 255, record 17 .comfort 800 128] ++ more }
    feed := { State.reset.feed with budget := budget, limit := budget } }

/-- The state an outcome gives, or the state given. -/
def after (o : Host.Outcome State Fault Refusal) (s : State) : State :=
  match o with
  | .next t => t
  | .fault _ => s
  | .refused _ => s

/-! ### Cases the manual works out -/

/-- R168: SET_PARAM (SCAN_PERIOD, 0) stores 2 and SET_PARAM (LAMP_MIN, 900) stores 500. -/
theorem test_setParam_clamps :
    (after (exec (.setParam 1 4 0) State.reset) State.reset).params.scanPeriod = 2 ∧
    (after (exec (.setParam 1 6 900) State.reset) State.reset).params.lampMin = 500 := by decide

/-- R98: the mapped values that the rule works out for v = 200. -/
theorem test_mappings :
    Machine.mapped .direct 0 200 = 200 ∧ Machine.mapped .invert 0 200 = 55 ∧ Machine.mapped .switch 128 200 = 255 ∧
    Machine.mapped .switch 201 200 = 0 ∧ Machine.mapped .scale 128 200 = 100 ∧ Machine.mapped .scale 255 200 = 200 ∧
    Machine.mapped .scale 0 200 = 0 ∧ Machine.mapped .switch 0 0 = 255 := by decide

/-- Section 7.8: the five applied duties at class 3, and at class 4 with nothing shed. -/
theorem test_arithmetic_class3 :
    (fiveLoads 3 []).applyBudget.translator.points.map (·.applied) = [255, 255, 231, 231, 116] ∧
    (fiveLoads 3 []).applyBudget.feed.shedding = true := by decide
theorem test_arithmetic_class4 :
    (fiveLoads 4 []).applyBudget.translator.points.map (·.applied) = [255, 255, 255, 255, 128] ∧
    (fiveLoads 4 []).applyBudget.feed.shedding = false := by decide

/-- Section 7.9: at class 2 the COMFORT loads keep 112, 112 and 56; the bind of 2300 mA takes all; at class 4 they have
213, 213 and 107. -/
theorem test_arithmetic_hot :
    (fiveLoads 2 []).applyBudget.translator.points.map (·.applied) = [255, 255, 112, 112, 56] ∧
    (fiveLoads 2 [record 19 .safety 2300 255]).applyBudget.translator.points.map (·.applied) = [255, 255, 0, 0, 0, 255] ∧
    (fiveLoads 4 [record 19 .safety 2300 255]).applyBudget.translator.points.map (·.applied) =
      [255, 255, 213, 213, 107, 255] := by decide

/-- Section 7.8: the light draws 402 mA and the floor of 2100 mA is 2. -/
theorem test_demand_and_floor : drawn 800 128 = 402 ∧ floorOf 2100 = 2 ∧ floorOf 2000 = 1 ∧ floorOf 4400 = 3 := by decide

/-- Section 8.6: E = 2170 gives the window 1844..2496; 1310 is LOW and 2180 IN. -/
theorem test_judge_window :
    Params.powerOn.tolerance 2170 = 326 ∧ judge 1310 2170 326 = .low ∧ judge 2180 2170 326 = .inn ∧
    judge 1843 2170 326 = .low ∧ judge 1844 2170 326 = .inn ∧ judge 2496 2170 326 = .inn ∧
    judge 2497 2170 326 = .high := by decide

/-- Section 8.6: position 2 probes STOP (circuit 1) for 420 mA while position 1 has entered 1750. -/
def probing : State :=
  let s := withCircuit 1 { Circuit.off with output := true, lamp := .ok, holder := some ⟨2, 420⟩, pulse := some 100000 }
    (atStep 2 .probe (flagsOf false true false) (.lampProbe 1 420))
  { s with lamps := { s.lamps with roll := [⟨1, 1, 1750⟩, ⟨2, 1, 420⟩] } }
theorem test_probe_share :
    ((after (exec (.probePulseExpiry 1 2180) probing) probing).pcr 2).v = 430 ∧
    ((after (exec (.probePulseExpiry 1 2180) probing) probing).pcr 2).state = .ready ∧
    ((after (exec (.probePulseExpiry 1 1750) probing) probing).pcr 2).cause = some .probeMismatch := by decide

/-- Section 2.3, the identity read at rate 2: the four bytes with a COMPLETE are ACCEPTED; a COMPLETE after two leaves a
residual of 2. -/
theorem test_identity_read :
    ({ onLine .endingStatus (txn .read 1 0 4 []) with received := [2, 0, 1, 9] } : OnLine).word (word true 1) =
      .ends { onLine .endingStatus (txn .read 1 0 4 []) with
        received := [2, 0, 1, 9], ending := some ⟨.complete, false, false⟩ } (.accepted [2, 0, 1, 9]) ∧
    ({ onLine .data (txn .read 1 0 4 []) with received := [2, 0] } : OnLine).word (word true 2) =
      .ends { onLine .data (txn .read 1 0 4 []) with
        received := [2, 0], ending := some ⟨.short, false, false⟩ } (.length 2 [2, 0]) := by decide

theorem upTo4 {P : Nat → Prop} (h1 : P 1) (h2 : P 2) (h3 : P 3) (h4 : P 4) : ∀ p, 1 ≤ p → p ≤ 4 → P p := by
  intro p hl hu
  obtain rfl | rfl | rfl | rfl : p = 1 ∨ p = 2 ∨ p = 3 ∨ p = 4 := by omega
  · exact h1
  · exact h2
  · exact h3
  · exact h4

/-! ### Hypotheses met: the step, the events that cannot arise -/

theorem witness_StepTakesTheFrontCommand :
    ({ State.reset with pending := [.identify 1] } : State).pending = .identify 1 :: [] ∧ State.reset.pending = [] := ⟨rfl, rfl⟩

theorem witness_CommandsKeepQueueAndClock : ∃ t, exec (.getParam 1 3) State.reset = .next t := ⟨_, rfl⟩

theorem reset_hasRoom : State.reset.hasRoom := Nat.succ_pos _

/-- Three replies waiting: the most that leave room (R179). -/
def busyCab (n : Nat) (s : State) : State :=
  { s with cab := { s.cab with
      replies := List.replicate n ⟨0, 1, .ok, []⟩, sending := some (.reply ⟨0, 1, .ok, []⟩) } }

theorem boundary_hasRoom : (busyCab 3 State.reset).hasRoom ∧ ¬ (busyCab 4 State.reset).hasRoom :=
  ⟨Nat.lt_succ_self 3, Nat.lt_irrefl 4⟩

def withBreak (b : BreakState) : State := { State.reset with link := { State.reset.link with breakState := b } }

theorem witness_EventsThatCannotArise :
    let s := State.reset
    (s.coupling.presenceTimer = none ∧ s.coupling.lockTimer = none ∧ s.enumerator.passWait = none ∧
      s.enumerator.busyWait = none ∧ s.link.gap = none ∧ s.feed.settleTimer = none ∧ s.feed.holdTimer = none ∧
      s.link.breakState = .none ∧ s.link.line = none ∧ s.cab.gathered = [] ∧ s.cab.sending = none) ∧
    ((s.pcr 1).busyTimer = none ∧ (s.pcr 4).busyTimer = none ∧ (s.pcr 1).waitTimer = none ∧ (s.pcr 4).waitTimer = none) ∧
    ((s.circuit 1).output = false ∧ (s.circuit 10).output = false ∧ (s.circuit 1).pulse = none ∧
      (s.circuit 10).pulse = none) ∧ s.hasRoom := by
  exact ⟨by decide, by decide, by decide, reset_hasRoom⟩

/-- The other stage of a break, and an echo that leaves its transaction going on. -/
theorem witness_EventsThatCannotArise_stages :
    let l : OnLine := onLine .echo (txn .read 1 4 2 [])
    (withBreak (.recovery 7)).link.breakState = .recovery 7 ∧ (withBreak (.low 7)).link.breakState = .low 7 ∧
    (withLine l State.reset).link.line = some l ∧ (∀ l' o, l.word (word false 1) ≠ .ends l' o) := by
  refine ⟨rfl, rfl, rfl, fun l' o => ?_⟩
  have h : ((onLine .echo (txn .read 1 4 2 [])).word (word false 1)).isEnd = false := by decide
  intro e
  rw [e] at h
  cases h

/-! ### Coupling and cab port -/

def coupled (raw : Bool) (k : Nat) : State :=
  { chained k with coupling := { (chained k).coupling with rawPresence := raw, presence := !raw, presenceTimer := some 9 } }

def locking (raw : Bool) (k : Nat) : State :=
  { chained k with coupling := { (chained k).coupling with rawLock := raw, lock := !raw, lockTimer := some 9 } }

theorem chained_settled (k : Nat) : (chained k).settled := by
  refine ⟨rfl, fun _ => ⟨rfl, rfl⟩, ?_, fun _ => rfl, fun _ => ⟨rfl, rfl, rfl⟩⟩
  intro _
  by_cases h1 : 1 ≤ k <;> by_cases h2 : 2 ≤ k <;> by_cases h3 : 3 ≤ k <;> by_cases h4 : 4 ≤ k <;>
    simp only [chained, h1, h2, h3, h4, if_true, if_false] <;> rfl
theorem witness_DebounceExpiriesTakeTheLevels :
    ((coupled true 4).coupling.presenceTimer = some 9 ∧ (coupled true 4).coupling.rawPresence = true ∧
      (coupled true 4).enumerator.state ≠ .breaking ∧ (coupled true 4).enumerator.occupancy = 4) ∧
    ((coupled false 4).coupling.presenceTimer = some 9 ∧ (coupled false 4).coupling.rawPresence = false) ∧
    ((locking false 4).coupling.lockTimer = some 9 ∧ (locking false 4).coupling.rawLock = false) ∧
    ((locking true 4).coupling.lockTimer = some 9 ∧ (locking true 4).params.autoStart = 0 ∧
      ((locking true 0).coupling.lockTimer = some 9 ∧ ∀ p, 1 ≤ p → p ≤ 4 → ((locking true 0).pcr p).state ≠ .waiting)) := by
  exact ⟨by decide, by decide, by decide, by decide, by decide, by decide, upTo4 (by decide) (by decide) (by decide) (by decide)⟩

/-- LOCK with AUTO_START 1, every position WAITING for a run of one long WAIT. -/
def lockStarts : State :=
  loaded [.step (flagsOf true false false) (.wait 255)]
    { locking true 4 with params := { (locking true 4).params with autoStart := 1 } }

theorem witness_DebounceExpiriesTakeTheLevels_starts :
    lockStarts.coupling.lockTimer = some 9 ∧ lockStarts.coupling.rawLock = true ∧ lockStarts.params.autoStart = 1 ∧
    (lockStarts.pcr 1).state = .waiting ∧ (lockStarts.pcr 4).state = .waiting := by decide

/-- R3, R65: LOCK starts the last position's run too, and its notice is the first of the event. -/
theorem test_lock_starts :
    ((after (exec .lockDebounceExpiry lockStarts) State.reset).pcr 4).waitTimer = some 2550009 ∧
    (after (exec .lockDebounceExpiry lockStarts) State.reset).cab.sending = some (.notice (.coupling .lock)) := by decide

/-- R3: the notice of DISCONNECT stands ahead of those of the positions it detaches. -/
theorem test_disconnect_notices :
    (after (exec .presenceDebounceExpiry (coupled false 1)) State.reset).cab.sending = some (.notice (.coupling .disconnect)) ∧
    (after (exec .presenceDebounceExpiry (coupled false 1)) State.reset).cab.notices =
      [.position 1 .empty (some .uncoupled)] := by decide +kernel

/-- R1, R2: with the timer running, a change to the level away from the debounced one restarts it with its full length. -/
theorem test_debounce_restarts :
    (after (exec (.presenceContactChange true) { coupled true 4 with now := 5 }) State.reset).coupling.presenceTimer =
      some 200005 ∧
    (after (exec (.lockSenseChange true) { locking true 4 with now := 5 }) State.reset).coupling.lockTimer = some 50005 := by
  decide

/-- One entry to a circuit and one to a point, under one code, with the point's record. -/
def mapped : State :=
  { chained 4 with
    translator := { State.reset.translator with
      map := [⟨5, .circuit 10, .direct, 0, 0⟩, ⟨5, .point ⟨1, 7⟩, .direct, 0, 0⟩]
      points := [record 7 .safety 1200 0] } }

theorem mapped_tablesGood : mapped.tablesGood := by unfold State.tablesGood ordered; decide
theorem chained_tablesGood (k : Nat) : (chained k).tablesGood :=
  ⟨.nil, Nat.zero_le _, nofun, .nil, Nat.zero_le _, .nil, Nat.zero_le _, .nil⟩

theorem boundary_circuitGood :
    (Target.circuit 1).circuitGood = true ∧ (Target.circuit 10).circuitGood = true ∧
    (Target.circuit 0).circuitGood = false ∧ (Target.circuit 11).circuitGood = false := by decide

theorem witness_FunctionStoresAndDerives :
    128 ≤ (128 : Byte).toNat ∧ (chained 4).settled ∧ (5 : Byte).toNat < 128 ∧ (127 : Byte).toNat < 128 ∧
    mapped.feed.waiting = [] ∧ mapped.tablesGood ∧ mapped.lamps.circuits.length = 10 ∧
    (∃ e ∈ mapped.translator.map, e.code = (5 : Byte).toNat ∧ e.target = .circuit 10) ∧
    (∀ e ∈ mapped.translator.map, e.code = (5 : Byte).toNat → e.target ≠ .circuit 1) ∧
    (∃ e ∈ mapped.translator.map, e.code = (5 : Byte).toNat ∧ e.target = .point (record 7 .safety 1200 0).key) :=
  ⟨by decide, chained_settled 4, by decide, by decide, rfl, mapped_tablesGood, by decide, by decide, by decide, by decide⟩

/-- A circuit that tripped while it was requested ON, and one whose probe forces it ON. -/
def shorted : Circuit := { Circuit.off with requested := true, lamp := .shorted }
def pulsed : Circuit := { Circuit.off with output := true, lamp := .ok, holder := some ⟨1, 420⟩, pulse := some 100000 }

/-- The clauses of a handover: none, neither SHORTED nor pulsed, pulsed, SHORTED at ON and at OFF. -/
theorem witness_FunctionStoresAndDerives_handover :
    (true = lit.requested) ∧
    (false ≠ lit.requested ∧ lit.lamp ≠ .shorted ∧ lit.pulse = none) ∧
    (true ≠ Circuit.off.requested ∧ Circuit.off.lamp ≠ .shorted ∧ Circuit.off.pulse = none) ∧
    (true ≠ pulsed.requested ∧ pulsed.lamp ≠ .shorted ∧ pulsed.pulse.isSome = true) ∧
    (true ≠ { shorted with requested := false }.requested ∧ shorted.lamp = .shorted) ∧
    (false ≠ shorted.requested ∧ shorted.lamp = .shorted) ∧
    ((withCircuit 10 shorted mapped).tablesGood ∧ (withCircuit 10 shorted mapped).feed.waiting = [] ∧
      (withCircuit 10 shorted mapped).lamps.circuits.length = 10 ∧ (withCircuit 10 shorted mapped).circuit 10 = shorted) :=
  ⟨by decide, by decide, by decide, by decide, by decide, by decide, mapped_tablesGood, rfl, by decide, by decide⟩

/-- R151, R153: 128 is ON and 127 OFF; a lit circuit goes out, a pulsed one stays on, and a SHORTED one clears at OFF with its
notice. -/
theorem test_function_handover :
    ((after (exec (.function 5 128) mapped) State.reset).circuit 10).output = true ∧
    ((after (exec (.function 5 127) (withCircuit 10 lit mapped)) State.reset).circuit 10).output = false ∧
    ((after (exec (.function 5 128) (withCircuit 10 pulsed mapped)) State.reset).circuit 10) =
      { pulsed with requested := true } ∧
    (after (exec (.function 5 128) (withCircuit 10 shorted mapped)) State.reset).circuit 10 = shorted := by decide
theorem test_function_clears_short :
    (after (exec (.function 5 127) (withCircuit 10 shorted mapped)) State.reset).circuit 10 = Circuit.off ∧
    (after (exec (.function 5 127) (withCircuit 10 shorted mapped)) State.reset).cab.sending =
      some (.notice (.circuit 10 .unchecked 0)) := by decide

theorem witness_MappedValuesFollowTheirModes : (255 : Nat) ≤ 255 ∧ (128 : Nat) ≤ 128 ∧ (200 : Nat) < 201 := by decide

def gathering (bs : List Byte) : State := { State.reset with cab := { State.reset.cab with gathered := bs } }

theorem witness_ReceiverHuntsAndDropsFrames :
    State.reset.cab.gathered = [] ∧ (194 : Byte) ≠ 195 ∧ (gathering [195, 2]).cab.gathered = 195 :: [2] ∧
    (∀ x ∈ ([2] : List Byte), x ≠ 195) ∧ (∀ x ∈ ((gathering [195, 2]).cab.gathered ++ [31, 7]).tail, x ≠ 195) ∧
    (gathering [195]).cab.gathered ≠ [] := by decide

theorem witness_ReceiverHuntsAndDropsFrames_again :
    ((gathering [195, 2]).cab.gathered ++ [31, 195]).tail = [2, 31] ++ [195] ∧ (∀ x ∈ ([2, 31] : List Byte), x ≠ 195) ∧
    ((gathering [195]).cab.gathered ++ [195]).tail = [] ++ [195] := by decide

/-- R178: the frame begun anew by the last byte of a dropped one must go on within 1 ms of it. -/
theorem test_dropped_frame_limit :
    let t := after (exec (.cabFrameDropped .badCheck [31, 195]) { gathering [195, 2] with now := 7 }) State.reset
    t.cab.gathered = [195] ∧ t.cab.byteLimit = 1007 := by decide

/-- R178: after a dropped frame the search goes on at its second byte, and finds a whole frame held behind it. -/
theorem test_search_goes_on :
    (after (exec (.cabFrameDropped .badLength [195, 195, 2, 2, 1, 1, 0, 201]) State.reset) State.reset).cab.frameError = true ∧
    (after (exec (.cabFrameDropped .badLength [195, 195, 2, 2, 1, 1, 0, 201]) State.reset) State.reset).cab.sending =
      some (.reply ⟨1, 1, .ok, [0x53, 0x14, 0x9C, 0x01, 0x01]⟩) := by decide

theorem witness_RequestPayloadsReadBack :
    encodeRequest (.start 3 4 255) = some [3, 14, 4, 255] ∧
    encodeRequest (.setParam 7 4 0x1234) = some [7, 3, 4, 0x34, 0x12] ∧ encodeRequest (.restart 0) = some [0, 21] := by decide

theorem witness_FramesCarryKindLengthAndSum :
    255 < 256 ∧ (List.replicate 30 (0 : Byte)).length ≤ 30 ∧ ([] : List Byte).length ≤ 30 ∧ 30 < (31 : Byte).toNat := by decide

/-- R177: SYNC 195, kind 2, length 2 and the payload 1, 1 sum to 201. -/
theorem test_frame_check : frameBytes 2 [1, 1] = [195, 2, 2, 1, 1, 0, 201] := by decide

theorem witness_FrameBytesRunTheirCommand :
    State.reset.cab.gathered = [] ∧
    (∃ payload, encodeRequest (.loadSteps 1 0 (List.replicate 3 ⟨3, 0, 0, 0, 0, 0, 0, 0⟩)) = some payload ∧
      payload.length ≤ 30) := ⟨rfl, _, rfl, by decide⟩

theorem witness_EveryRequestIsAnsweredOrDropped :
    ¬ (busyCab 4 State.reset).hasRoom ∧ (encodeRequest (.getStatus 1)).isSome = true ∧
    (∃ form, Instr.badRequest (some (1, 99)) = .badRequest form) ∧
    (encodeRequest (.setParam 7 9 0) = some (7 :: 3 :: [9, 0, 0]) ∧ (3 : Byte) ≠ 21 ∧ (busyCab 3 State.reset).hasRoom) :=
  ⟨boundary_hasRoom.2, rfl, ⟨_, rfl⟩, rfl, by decide, boundary_hasRoom.1⟩

def sendingNow (rs : List Reply) (ns : List Notice) (ps : List Report) : State :=
  { State.reset with cab := { State.reset.cab with
      sending := some (.notice .chainTooLong), replies := rs, notices := ns, reports := ps } }

/-- A Report Queue of n entries with n keys. -/
def reported (n : Nat) : CabPort :=
  { State.reset.cab with reports := (List.range n).map (fun i => ⟨i, 1, 0⟩), notices := List.replicate (n / 2) .chainTooLong }

theorem witness_CabQueuesPlaceAndTake :
    ((sendingNow [] [] []).cab.sending = some (.notice .chainTooLong) ∧
      (sendingNow [⟨1, 1, .ok, []⟩] [.chainTooLong] []).cab.replies = ⟨1, 1, .ok, []⟩ :: [] ∧
      ((sendingNow [] [.chainTooLong] [⟨1, 1, 1⟩]).cab.replies = [] ∧
        (sendingNow [] [.chainTooLong] [⟨1, 1, 1⟩]).cab.notices = .chainTooLong :: []) ∧
      ((sendingNow [] [] [⟨1, 1, 1⟩]).cab.notices = [] ∧ (sendingNow [] [] [⟨1, 1, 1⟩]).cab.reports = ⟨1, 1, 1⟩ :: [])) ∧
    ((reported 31).notices.length < 16 ∧ 16 ≤ (reported 32).notices.length) ∧
    ((reported 32).reports.Pairwise Report.differ ∧ (∃ q ∈ (reported 32).reports, q.code = 31 ∧ q.pos = 1) ∧
      (∀ q ∈ (reported 31).reports, ¬(q.code = 31 ∧ q.pos = 1)) ∧ (reported 31).reports.length < 32 ∧
      (∀ q ∈ (reported 32).reports, ¬(q.code = 31 ∧ q.pos = 2)) ∧ 32 ≤ (reported 32).reports.length) := by
  refine ⟨by decide, by decide, ?_, by decide, by decide, by decide, by decide, by decide⟩
  unfold Report.differ
  decide

/-! ### Management requests -/

theorem witness_IdentityStatusAndParameterReads : (busyCab 3 State.reset).hasRoom ∧ (busyCab 0 State.reset).hasRoom :=
  ⟨boundary_hasRoom.1, Nat.succ_pos _⟩

theorem witness_SetParamClampsAndStores :
    State.reset.hasRoom ∧ (0 : Half).toNat = 0 ∧ 1 ≤ (1 : Half).toNat ∧ 7 < (8 : Byte).toNat ∧ 7 < (255 : Byte).toNat :=
  ⟨reset_hasRoom, by decide⟩

def profile (valid fallback : Bool) (first count : Half) : RawProfile :=
  { valid := valid, fallback := fallback, typeCode := 7, revLow := 0, revHigh := 255, firstStep := first, stepCount := count }

/-- Slot 0 is in use by the run of position 1. -/
def inUse : State := atStep 1 .timer (flagsOf true false false) (.wait 5)

theorem witness_LoadProfileStoresAndRematches :
    inUse.hasRoom ∧ (24 ≤ (24 : Byte).toNat ∧ 512 < (510 : Half).toNat + (3 : Half).toNat ∧ (profile false true 0 1).valid = false) ∧
    (profileWrong 0 (profile true true 508 4) = false ∧ inUse.slotInUse 0 = true) ∧
    ((∃ q, q < 24 ∧ q ≠ 23 ∧ (inUse.profile q).fallback = true ∧ inUse.slotInUse q = true)) ∧
    (profileWrong 23 (profile true false 511 1) = false ∧ inUse.slotInUse 23 = false ∧ inUse.profiles.length = 24 ∧
      inUse.params.autoStart = 0 ∧ 4 ≤ inUse.enumerator.occupancy ∧ (inUse.pcr 4).state = .waiting) :=
  ⟨Nat.succ_pos _, by decide, by decide, ⟨0, by decide⟩, by decide⟩

/-- Position 4 has no profile. -/
def stranger (auto : Nat) (lock : Bool) : State :=
  let s := atPos 4 { waiting with state := .unprofiled, profileSlot := none } (loaded [] (chained 4))
  { s with params := { s.params with autoStart := auto }, coupling := { s.coupling with lock := lock } }

theorem witness_LoadProfileStoresAndRematches_runs :
    let loads := fun (slot : Byte) (r : RawProfile) (s : State) => after (exec (.loadProfile 1 slot r) s) State.reset
    (profileWrong 23 (profile true false 511 1) = false ∧ (stranger 1 true).slotInUse 23 = false ∧
      (stranger 1 true).profiles.length = 24 ∧ (stranger 1 true).hasRoom) ∧
    (((stranger 1 true).pcr 4).state = .unprofiled ∧ ((stranger 1 true).pcr 4).profileSlot = none ∧
      ((loads 23 (profile true false 511 1) (stranger 1 true)).matchSlot ((stranger 1 true).pcr 4).identity).isSome = true ∧
      (stranger 1 true).params.autoStart = 1 ∧ (stranger 1 true).coupling.lock = true) ∧
    (¬((stranger 1 false).params.autoStart = 1 ∧ (stranger 1 false).coupling.lock = true) ∧
      ((stranger 1 true).pcr 1).state = .waiting) ∧
    ((loads 0 (profile false false 0 1) (stranger 1 true)).matchSlot ((stranger 1 true).pcr 4).identity).isNone = true := by
  exact ⟨⟨by decide, by decide, by decide, Nat.succ_pos _⟩, by decide, by decide, by decide⟩

/-- R47, R65: with AUTO_START 1 and the lock LOCKED the position that comes to WAITING runs at once, EMPTY failing it. -/
theorem test_rematch_starts :
    ((after (exec (.clearProfile 1 23) (stranger 1 true)) State.reset).pcr 4).cause = some .badStep ∧
    ((after (exec (.clearProfile 1 23) (stranger 0 true)) State.reset).pcr 4).state = .waiting := by decide

theorem witness_ClearProfileInvalidates :
    inUse.hasRoom ∧ 24 ≤ (24 : Byte).toNat ∧ (inUse.slotInUse (0 : Byte).toNat = true ∧ (0 : Byte).toNat < 24) ∧
    ((loaded [] (chained 4)).slotInUse 0 = false ∧ (loaded [] (chained 4)).slotInUse (23 : Byte).toNat = false ∧
      (23 : Byte).toNat < 24 ∧ fallbackGood (loaded [] (chained 4)).profiles ∧
      ((loaded [] (chained 4)).profile 0).fallback = true ∧ (chained 4).params.autoStart = 0 ∧
      ((chained 4).pcr 1).state = .waiting ∧ ((chained 4).pcr 4).state = .waiting) := by
  refine ⟨Nat.succ_pos _, by decide, by decide, by decide, by decide, by decide, ?_, by decide⟩
  unfold fallbackGood
  decide

/-- R47, R60: CLEAR_PROFILE of the slot of four waiting positions leaves them UNPROFILED. -/
theorem test_clearProfile :
    ((after (exec (.clearProfile 1 0) (loaded [] (chained 4))) State.reset).pcr 4).state = .unprofiled := by decide

theorem witness_ClearProfileInvalidates_runs :
    (stranger 1 true).slotInUse (23 : Byte).toNat = false ∧ (stranger 1 true).hasRoom ∧
    ((after (exec (.clearProfile 1 23) (stranger 1 true)) State.reset).matchSlot ((stranger 1 true).pcr 4).identity).isSome =
      true ∧
    ((after (exec (.clearProfile 1 0) (stranger 1 true)) State.reset).matchSlot ((stranger 1 true).pcr 4).identity).isNone =
      true := ⟨by decide, Nat.succ_pos _, by decide, by decide⟩

/-- A WAIT of 10 ms, and a TEST with a reserved condition. -/
def waitStep : RawStep := ⟨8, 1, 1, 0, 0, 0, 0, 0⟩
def wrongStep : RawStep := ⟨0x5A, 0, 0, 0, 0, 0, 0, 0⟩

theorem witness_LoadStepsStoresOrRefuses :
    inUse.hasRoom ∧ ([] : List RawStep).length = 0 ∧ 3 < (List.replicate 4 waitStep).length ∧ 512 < (510 : Half).toNat + 3 ∧
    (∃ d ∈ [waitStep, wrongStep], storedStep d = none) ∧
    ([waitStep].map storedStep = [Descriptor.step (flagsOf true false false) (.wait 1)].map some ∧
      (∃ j, 3 ≤ j ∧ j < 3 + 1 ∧ inUse.stepInUse j = true)) ∧
    ((∀ j, 4 ≤ j → j < 4 + 1 → inUse.stepInUse j = false) ∧ inUse.steps.length = 512 ∧ (509 : Half).toNat + 3 ≤ 512) := by
  refine ⟨Nat.succ_pos _, rfl, by decide, by decide, by decide, ⟨by decide, 3, by decide⟩, ?_, by decide +kernel, by decide⟩
  intro j h1 h2
  obtain rfl : j = 4 := by omega
  decide

/-- R59, Table 10-6: a WAIT of 0 is stored as 1, a DELTA threshold of 0 as 1, a BIND_OUT of 5000 mA as 4095. -/
theorem test_stored_steps :
    storedStep ⟨8, 1, 0, 0, 0, 0, 0, 0⟩ = some (.step (flagsOf true false false) (.wait 1)) ∧
    storedStep ⟨0x15, 0, 6, 3, 0, 0, 0, 0⟩ = some (.step (flagsOf false false false) (.bindIn 6 3 .delta 1)) ∧
    storedStep ⟨0x14, 0, 9, 7, 0x88, 0x13, 0, 0⟩ =
      some (.step (flagsOf false false false) (.bindOut 9 7 .comfort 4095 .direct 0)) ∧
    storedStep ⟨8, 2, 1, 0, 0, 0, 0, 0⟩ = none := by decide

/-- One descriptor that each operation takes, and one that it refuses. -/
theorem witness_LoadStepsStoresOrRefuses_operations :
    (∀ d ∈ ([⟨0x11, 0, 5, 1, 9, 9, 0, 0⟩, ⟨2, 15, 0, 7, 0, 0, 0, 0⟩, ⟨3, 3, 0, 0, 0, 0, 0, 0⟩, ⟨4, 0x61, 127, 3, 255, 255, 255, 255⟩,
        ⟨0x15, 1, 254, 127, 0, 0, 0, 0⟩, ⟨6, 1, 10, 0, 255, 255, 0, 0⟩, ⟨7, 7, 255, 0, 0, 0, 0, 0⟩, ⟨8, 1, 0, 0, 0, 0, 0, 0⟩,
        ⟨9, 7, 1, 0, 255, 255, 0, 0⟩, ⟨0x4A, 1, 0, 0, 9, 9, 16, 0⟩, ⟨11, 1, 128, 0, 0, 0, 0, 0⟩, ⟨12, 1, 0, 0, 0, 0, 31, 0⟩] :
        List RawStep), (storedStep d).isSome = true) ∧
    (∀ d ∈ ([⟨0x21, 0, 5, 1, 9, 9, 0, 0⟩, ⟨1, 0, 1, 0, 0, 0, 0, 0⟩, ⟨1, 0, 5, 2, 0, 0, 0, 0⟩, ⟨2, 0, 2, 0, 0, 0, 0, 0⟩,
        ⟨3, 4, 0, 0, 0, 0, 0, 0⟩, ⟨4, 0x80, 0, 3, 0, 0, 0, 0⟩, ⟨5, 0, 4, 128, 0, 0, 0, 0⟩, ⟨6, 0, 11, 0, 0, 0, 0, 0⟩,
        ⟨7, 8, 0, 0, 0, 0, 0, 0⟩, ⟨8, 2, 0, 0, 0, 0, 0, 0⟩, ⟨9, 0, 0, 0, 0, 0, 0, 0⟩, ⟨0x5A, 0, 0, 0, 0, 0, 0, 0⟩,
        ⟨11, 4, 0, 0, 0, 0, 0, 0⟩, ⟨12, 8, 0, 0, 0, 0, 0, 0⟩, ⟨0, 0, 0, 0, 0, 0, 0, 0⟩, ⟨13, 0, 0, 0, 0, 0, 0, 0⟩] :
        List RawStep), storedStep d = none) := by decide

def full : State :=
  { inUse with
    translator := mapped.translator
    scanner := { inUse.scanner with map := [⟨⟨1, 4⟩, 3, .change, 0, none, 0⟩] }
    lamps := { inUse.lamps with roll := [⟨1, 1, 420⟩] }
    pcrs := inUse.pcrs.set 1 { inUse.pcr 1 with sense := [1, 2, 3, 4] } }

theorem witness_EntriesAndContextsAreRead :
    full.hasRoom ∧ (∃ r, full.profiles[23]? = some r) ∧ full.profiles.length ≤ 24 ∧ (∃ d, full.steps[511]? = some d) ∧
    full.steps.length ≤ 512 ∧ (∃ e, full.translator.map[1]? = some e) ∧ full.translator.map.length ≤ 2 ∧
    (∃ e, full.scanner.map[0]? = some e) ∧ full.scanner.map.length ≤ 1 ∧ (∃ e, full.lamps.roll[0]? = some e) ∧
    full.lamps.roll.length ≤ 1 ∧ 4 < (5 : Byte).toNat ∧
    ((0 : Byte).toNat = 0 ∧ 4 < (5 : Byte).toNat ∧ ((chained 0).pcr 1).state = .empty ∧ ((chained 0).pcr 4).state = .empty ∧
      (full.pcr 1).state ≠ .empty ∧ (full.pcr 1).sense.length ≤ 4 ∧ (full.pcr 1).identity = some ⟨7, 3, 20⟩) :=
  ⟨Nat.succ_pos _, ⟨_, rfl⟩, by decide, ⟨.empty, by decide +kernel⟩, by decide +kernel, ⟨_, rfl⟩, by decide, ⟨_, rfl⟩, by decide, ⟨_, rfl⟩, by decide,
    by decide, by decide⟩

theorem witness_EntriesAndContextsAreRead_layouts :
    (∃ e ∈ full.translator.map, e.target = .circuit 10) ∧ ordered OutRec.before full.translator.points ∧
    (∃ e ∈ full.translator.map, ∃ r ∈ full.translator.points, e.target = .point r.key) ∧
    ((-16 : Int) ≤ -16 ∧ (-16 : Int) ≤ 15 ∧ (15 : Int) ≤ 15) := by
  refine ⟨by decide, ?_, by decide, by decide⟩
  unfold ordered; decide

/-- A position whose identity read failed, and one whose last transaction has shown both statuses. -/
def unread : State := atPos 4 { Pcr.empty with state := .failed, cause := some .identFailed } (chained 4)
def shown (c : Completion) : Pcr :=
  { running 511 .timer with lastInitial := some ⟨true, false, false, false, true⟩, lastEnding := some c, sense := [1, 2, 3, 4] }

theorem witness_EntriesAndContextsAreRead_contexts :
    (unread.hasRoom ∧ (unread.pcr 4).state ≠ .empty ∧ (unread.pcr 4).identity = none ∧ (unread.pcr 4).lastInitial = none ∧
      (unread.pcr 4).lastEnding = none ∧ (unread.pcr 4).sense.length = 0) ∧
    ((shown .short).lastInitial = some ⟨true, false, false, false, true⟩ ∧ (shown .complete).lastEnding = some .complete ∧
      (shown .short).lastEnding = some .short ∧ (shown .unitCheck).lastEnding = some .unitCheck ∧
      (shown .short).sense.length = 4) := ⟨⟨Nat.succ_pos _, by decide⟩, by decide⟩

/-- Table 10-3: an absent identity is four bytes 0, and byte 25 shows the cause alone as present. -/
theorem test_context_absent : unread.contextData 4 =
    [8, 0, 0, 0, 0, 0, 0, 0, 0, 0, 0, 0, 0, 0, 0, 0, 0, 0, 0, 0, 0, 0, 0, 0, 1, 0x80, 0] := by decide

/-- Tables 10-3 and 10-7: BUSY with DOWNSTREAM_CHANGE, then SHORT; identity, slot, step index and both statuses present. -/
theorem test_context_statuses : (atPos 1 (shown .short) (chained 4)).contextData 1 =
    [4, 7, 0, 3, 20, 0, 0xFF, 1, 3, 1, 0, 0, 0, 0, 0, 0, 0, 0x11, 2, 4, 1, 2, 3, 4, 0, 0x7C, 0] := by decide

/-- R186, Table 10-6: a COUNT back by 16, and a BIND_OUT of class COMFORT with mode SCALE. -/
theorem test_descriptor_bytes :
    (Descriptor.step (flagsOf true false false) (.count (-16))).bytes = [12, 1, 0, 0, 0, 0, 16, 0] ∧
    (Descriptor.step (flagsOf true true false) (.bindOut 9 7 .comfort 4095 .scale 128)).bytes =
      [0x14, 0x63, 9, 7, 0xFF, 0x0F, 128, 0] := by decide

/-- The Function Map full, and the Report Map full. -/
def crowded : State :=
  { chained 4 with
    translator := { State.reset.translator with
      map := (List.range 96).map (fun n => ⟨n, .circuit 1, .direct, 0, 0⟩) }
    scanner := { State.reset.scanner with
      map := (List.range 64).map (fun n => ⟨⟨1, 4 + 2 * n⟩, n, .change, 0, none, 0⟩) } }

theorem crowded_tablesGood : crowded.tablesGood := by unfold State.tablesGood ordered; decide

theorem witness_BindFunctionToACircuit :
    crowded.hasRoom ∧ 128 ≤ (128 : Byte).toNat ∧ 10 < (11 : Byte).toNat ∧ 3 < (4 : Byte).toNat ∧
    (MapMode.ofCode (3 : Byte).toNat = some .scale ∧ (127 : Byte).toNat < 128 ∧ 1 ≤ (1 : Byte).toNat ∧ (10 : Byte).toNat ≤ 10) ∧
    ((¬ ∃ o ∈ crowded.translator.map, o.code = 127 ∧ o.target = .circuit 10) ∧ 96 ≤ crowded.translator.map.length) ∧
    ((∃ o ∈ crowded.translator.map, o.code = 95 ∧ o.target = .circuit 1) ∧ crowded.tablesGood ∧
      crowded.lamps.circuits.length = 10) ∧
    (mapped.translator.map.length < 96 ∧ mapped.tablesGood ∧ mapped.lamps.circuits.length = 10 ∧ (chained 4).settled) :=
  ⟨Nat.succ_pos _, by decide, by decide, by decide, by decide, by decide, ⟨by decide, crowded_tablesGood, by decide⟩,
    by decide, mapped_tablesGood, by decide, chained_settled 4⟩

theorem witness_BindFunctionToACircuit_kinds : 2 ≤ (2 : Byte).toNat ∧ 2 ≤ (255 : Byte).toNat ∧ mapped.hasRoom :=
  ⟨by decide, by decide, Nat.succ_pos _⟩

/-- R153, R171: a bind that leaves its circuit OFF clears a short, notice before reply in the queues; kind 2 is BAD_VALUE. -/
theorem test_bind_clears_short :
    (after (exec (.bindFunction 1 9 0 10 0 0 0 0 0) (withCircuit 10 shorted (chained 4))) State.reset).circuit 10 =
      Circuit.off ∧
    (after (exec (.bindFunction 1 9 0 10 0 0 0 0 0) (withCircuit 10 shorted (chained 4))) State.reset).cab.notices =
      [.circuit 10 .unchecked 0] ∧
    (after (exec (.bindFunction 1 9 2 10 0 0 0 0 0) mapped) State.reset).cab.sending =
      some (.reply ⟨1, 9, .badValue, []⟩) := by decide

theorem witness_BindFunctionToAPoint :
    (128 ≤ (128 : Byte).toNat ∧ 4 < (5 : Byte).toNat ∧ (6 : Byte).toNat % 2 = 0 ∧ (1 : Byte).toNat = 1 ∧ 1 < (2 : Byte).toNat) ∧
    (MapMode.ofCode (3 : Byte).toNat = some .scale ∧ OutClass.ofCode (1 : Byte).toNat = some .comfort ∧
      (127 : Byte).toNat < 128 ∧ (4 : Byte).toNat ≤ 4 ∧ (3 : Byte).toNat % 2 = 1 ∧ (255 : Byte).toNat % 2 = 1 ∧
      (3 : Byte).toNat ≠ 1) ∧
    ((chained 3).hasRoom ∧ (chained 3).enumerator.occupancy < (4 : Byte).toNat) ∧
    ((4 : Byte).toNat ≤ crowded.enumerator.occupancy ∧
      (¬ ∃ o ∈ crowded.translator.map, o.code = 127 ∧ o.target = .point ⟨4, 3⟩) ∧ 96 ≤ crowded.translator.map.length) ∧
    ((4 : Byte).toNat ≤ mapped.enumerator.occupancy ∧ mapped.translator.map.length < 96 ∧
      mapped.translator.points.length < 96 ∧ mapped.tablesGood ∧ mapped.feed.waiting = []) :=
  ⟨by decide, by decide, ⟨Nat.succ_pos _, by decide⟩, by decide, by decide, by decide, by decide, mapped_tablesGood, rfl⟩

theorem witness_UnbindFunctionRemovesTheEntry :
    mapped.hasRoom ∧ 128 ≤ (128 : Byte).toNat ∧ readTarget 1 1 6 = none ∧ readTarget 0 10 0 = some (.circuit 10) ∧
    (readTarget 1 4 7 = some (.point ⟨4, 7⟩) ∧ (chained 3).targetAbsent (.point ⟨4, 7⟩) = true) ∧
    (mapped.targetAbsent (.point ⟨4, 7⟩) = false ∧ ¬ ∃ o ∈ mapped.translator.map, o.code = 5 ∧ o.target = .point ⟨4, 7⟩) ∧
    (mapped.targetAbsent (.point ⟨1, 7⟩) = false ∧ (∃ o ∈ mapped.translator.map, o.code = 5 ∧ o.target = .point ⟨1, 7⟩) ∧
      (∃ o ∈ mapped.translator.map, o.code = 5 ∧ o.target = .circuit 10) ∧ mapped.tablesGood ∧ mapped.feed.waiting = [] ∧
      mapped.lamps.circuits.length = 10) :=
  ⟨Nat.succ_pos _, by decide, by decide, by decide, by decide, by decide, by decide, by decide, by decide, mapped_tablesGood, rfl,
    by decide⟩

/-- One entry to point 7 of position 1, with a record of its own; the line is free, or in the quiet gap with the slot taken. -/
def targeting (slot : Option Txn) (r : OutRec) : State :=
  { chained 4 with
    link := { Link.powerOn with gap := slot.map (fun _ => 80), slot := slot }
    translator := { State.reset.translator with map := [⟨5, .point ⟨1, 7⟩, .direct, 0, 0⟩], points := [r] } }

/-- A record at duty 255 with what its node has accepted, its fault mark and its write state. -/
def taken (accepted : Option Nat) (faulted : Bool) (write : WriteState) : OutRec :=
  { record 7 .safety 1200 255 with applied := 255, accepted := accepted, faulted := faulted, write := write }

/-- The point under two codes. -/
def twice : State :=
  let s := targeting none (taken (some 1) false .idle)
  { s with translator := { s.translator with map := s.translator.map ++ [⟨6, .point ⟨1, 7⟩, .direct, 0, 0⟩] } }

def slotTaken : Option Txn := some (txn .read 1 4 2 [])

theorem targeting_tablesGood : (targeting slotTaken (taken (some 1) false .idle)).tablesGood := by
  unfold State.tablesGood ordered; decide

/-- A record that another entry targets, one faulted, one with no duty accepted, one IN_FLIGHT and one at an accepted 255. -/
theorem witness_UnbindFunctionRemovesTheEntry_points :
    ((∃ o ∈ (after (exec (.unbindFunction 1 5 1 1 7) twice) State.reset).translator.map, o.target = .point ⟨1, 7⟩) ∧
      (taken (some 1) false .idle).gone = false) ∧
    (taken (some 255) true .idle).faulted = true ∧
    ((taken none false .idle).write ≠ .inFlight ∧ (taken none false .idle).accepted = none) ∧
    ((taken (some 255) false .inFlight).faulted = false ∧ (taken (some 255) false .inFlight).write = .inFlight ∧
      (⟨1, 7⟩ : PointKey) ∉ (targeting none (taken (some 255) false .inFlight)).translator.queue) ∧
    ((taken (some 1) false .idle).faulted = false ∧ (taken (some 1) false .idle).accepted = some 1 ∧ (1 : Nat) ≤ 1) ∧
    (let s := targeting slotTaken (taken (some 1) false .idle)
     s.hasRoom ∧ s.targetAbsent (.point ⟨1, 7⟩) = false ∧ s.tablesGood ∧ s.settled ∧ s.mayGrant = false) := by
  exact ⟨by decide, rfl, by decide, by decide, by decide, Nat.succ_pos _, by decide, targeting_tablesGood,
    ⟨rfl, fun h => by simp [targeting, slotTaken, Link.free, Link.powerOn] at h,
      fun h => by simp [targeting, slotTaken, State.mayGrant, Link.powerOn] at h, fun _ => rfl, fun _ => ⟨rfl, rfl, rfl⟩⟩, by decide⟩

/-- R106: an accepted duty of 255 stays for the write of 0, which goes at once with the line free; a duty of 0 goes at once. -/
theorem test_unbind_retires :
    let unbound := fun gap r => after (exec (.unbindFunction 1 5 1 1 7) (targeting gap r)) State.reset
    (unbound slotTaken (taken (some 255) false .idle)).translator.queue = [⟨1, 7⟩] ∧
    (unbound none (taken (some 255) false .idle)).translator.points.map (·.inFlight) = [some 0] ∧
    (unbound none (taken (some 0) false .idle)).translator.points = [] ∧
    (unbound none (taken (some 0) false .inFlight)).translator.points.map (·.retiring) = [true] ∧
    (unbound none (taken (some 255) true .idle)).translator.points = [] := by decide

/-- R101, R102, R151: the last entry of a lit circuit goes, and the circuit goes out. -/
theorem test_unbind_drives :
    ((after (exec (.unbindFunction 1 5 0 10 0) (withCircuit 10 lit mapped)) State.reset).circuit 10).output = false := by
  decide

theorem witness_ReportBindsByKey :
    crowded.hasRoom ∧ (4 < (5 : Byte).toNat ∧ (7 : Byte).toNat % 2 = 1 ∧ (2 : Byte).toNat = 2 ∧ 128 ≤ (128 : Byte).toNat ∧
      1 < (2 : Byte).toNat) ∧
    ((chained 3).hasRoom ∧ (chained 3).enumerator.occupancy < (4 : Byte).toNat ∧ (127 : Byte).toNat < 128) ∧
    (crowded.tablesGood ∧ (4 : Byte).toNat ≤ crowded.enumerator.occupancy ∧
      (¬ ∃ o ∈ crowded.scanner.map, o.key = ⟨4, 0⟩) ∧ 64 ≤ crowded.scanner.map.length ∧
      (∃ o ∈ crowded.scanner.map, o.key = ⟨1, 130⟩) ∧ Filter.ofCode (1 : Byte).toNat = some .delta) ∧
    ((chained 4).scanner.map.length < 64 ∧ (chained 4).tablesGood) :=
  ⟨Nat.succ_pos _, by decide, ⟨Nat.succ_pos _, by decide⟩, ⟨crowded_tablesGood, by decide⟩, by decide, chained_tablesGood 4⟩

theorem witness_EnumerateStartsAfresh :
    inUse.hasRoom ∧ 1 < (2 : Byte).toNat ∧ State.reset.coupling.presence = false ∧
    (inUse.coupling.presence = true ∧ (inUse.pcr 1).state = .bringingUp) ∧
    ((chained 4).coupling.presence = true ∧
      (¬ ∃ p, 1 ≤ p ∧ p ≤ 4 ∧ (((chained 4).pcr p).state = .bringingUp ∨ ((chained 4).pcr p).state = .held)) ∧
      (chained 4).enumerator.state ≠ .breaking ∧ 4 ≤ (chained 4).enumerator.occupancy) := by
  refine ⟨Nat.succ_pos _, by decide, by decide, by decide, by decide, ?_, by decide, by decide⟩
  rintro ⟨p, h1, h2, h⟩
  exact upTo4 (P := fun p => ¬(((chained 4).pcr p).state = .bringingUp ∨ ((chained 4).pcr p).state = .held))
    (by decide) (by decide) (by decide) (by decide) p h1 h2 h

/-! ### Runs -/

/-- A profile whose first step is a WAIT, and one whose first step is EMPTY. -/
def startable : State := loaded [.step (flagsOf true false false) (.wait 255)] (chained 4)

theorem witness_StartBeginsARunOrIsRefused :
    startable.hasRoom ∧ (0 : Byte).toNat = 0 ∧ 4 < (5 : Byte).toNat ∧ ((chained 3).pcr 4).state = .empty ∧
    (inUse.pcr 1).state = .bringingUp ∧ (startable.pcr 4).state = .waiting ∧
    (24 ≤ (24 : Byte).toNat ∧ (254 : Byte).toNat < 255) ∧ (startable.profile 23).valid = false ∧
    (chained 4).matchSlot ((chained 4).pcr 1).identity = none ∧
    ((startable.profile (0 : Byte).toNat).valid = true ∧ (startable.profile 0).firstStep = 0 ∧
      startable.stepAt 0 = .step (flagsOf true false false) (.wait 255) ∧ startable.feed.waiting = []) :=
  ⟨Nat.succ_pos _, by decide, by decide, by decide, by decide, by decide, by decide, by decide, by decide, by decide⟩

/-- A slot that matching gives for an identity it knows, for one it does not know, and for none (R50): the fallback. -/
theorem witness_StartBeginsARunOrIsRefused_matched :
    (255 : Byte) = 255 ∧ startable.matchSlot (startable.pcr 4).identity = some 0 ∧ startable.matchSlot none = some 0 ∧
    ((0 : Byte).toNat = 0 ∧ 0 < 24 ∧ (startable.profile 0).valid = true) := by decide

/-- R50, R66: START without a slot of a position whose identity could not be read begins a run with the fallback. -/
theorem test_start_unmatched :
    let s := atPos 4 { Pcr.empty with state := .failed, cause := some .identFailed } startable
    ((after (exec (.start 1 4 255) s) s).pcr 4).profileSlot = some 0 ∧
    ((after (exec (.start 1 4 255) s) s).pcr 4).waitTimer = some 2550000 := by decide

theorem witness_AutoStartStartsWaitingPositions :
    startable.hasRoom ∧ startable.coupling.lock = true ∧ (startable.pcr 1).state = .waiting ∧
    (startable.pcr 4).state = .waiting := ⟨Nat.succ_pos _, by decide⟩

/-- R65: the four runs begin, lowest position first. -/
theorem test_autoStart :
    ((after (exec (.setParam 1 1 1) startable) State.reset).pcr 4).waitTimer = some 2550000 := by decide

def heldAt (d : Descriptor) (executed : Nat) : State :=
  loaded [d] (atPos 4 { held 0 with executed := executed } (chained 4))

theorem witness_HoldAndResume :
    inUse.hasRoom ∧ (inUse.pcr 1).state = .bringingUp ∧ (inUse.pcr 1).holdPending = false ∧
    ((atPos 1 { running 0 .timer with holdPending := true } (chained 4)).pcr 1).holdPending = true ∧ (chained 4).settled ∧
    ((chained 3).pcr 4).state = .empty ∧ ((chained 4).pcr 4).state = .waiting ∧ 4 < (5 : Byte).toNat ∧
    (((heldAt (.step (flagsOf true false false) (.wait 1)) 255).pcr 4).state = .held ∧
      ((heldAt (.step (flagsOf true false false) (.wait 1)) 255).pcr 4).stepIndex = some 0 ∧
      ((heldAt (.step (flagsOf true false false) (.wait 1)) 255).pcr 4).executed < 256 ∧
      (heldAt (.step (flagsOf true false false) (.wait 1)) 255).stepAt 0 = .step (flagsOf true false false) (.wait 1)) ∧
    ((heldAt .empty 255).stepAt 0 = .empty ∧ ((heldAt .empty 255).pcr 4).executed < 256 ∧
      256 ≤ ((heldAt .empty 256).pcr 4).executed) :=
  ⟨Nat.succ_pos _, by decide, by decide, by decide, chained_settled 4, by decide, by decide, by decide, by decide, by decide⟩

theorem witness_AbortFailsTheRun :
    inUse.hasRoom ∧ (inUse.pcr 1).state = .bringingUp ∧ ((heldAt .empty 1).pcr 4).state = .held ∧
    ((chained 3).pcr 4).state = .empty ∧ ((chained 4).pcr 4).state = .waiting ∧ 4 < (5 : Byte).toNat ∧
    (probing.pcr 2).state = .bringingUp ∧ probing.lamps.circuits.length = 10 := ⟨Nat.succ_pos _, by decide⟩

/-- R93, R163: an ABORT frees the probe its position holds, and the forced output goes off. -/
theorem test_abort_frees_probe :
    ((after (exec (.abort 1 2) probing) State.reset).circuit 1).output = false ∧
    ((after (exec (.abort 1 2) probing) State.reset).circuit 1).holder = none := by decide

theorem witness_ContextWriteInHeld :
    (heldAt .empty 1).hasRoom ∧ 4 < (5 : Byte).toNat ∧ ((chained 3).pcr 4).state = .empty ∧
    ((chained 4).pcr 4).state = .waiting ∧ ((heldAt .empty 1).pcr 4).state = .held ∧
    (((heldAt .empty 1).runProfile 4).firstStep ≤ (0 : Half).toNat ∧
      (3 : Half).toNat < ((heldAt .empty 1).runProfile 4).firstStep + ((heldAt .empty 1).runProfile 4).stepCount ∧
      ((heldAt .empty 1).runProfile 4).firstStep + ((heldAt .empty 1).runProfile 4).stepCount ≤ (4 : Half).toNat) ∧
    3 < (4 : Byte).toNat := ⟨Nat.succ_pos _, by decide⟩

/-- A transaction of the enumerator's own on the line, in growth. -/
def growing (state : EnumState) : State :=
  withLine (onLine .echo { txn .assign 0 0 1 [1] with requester := .enumerator })
    { chained 0 with enumerator := { (chained 0).enumerator with
        state := state, cursor := some 1, request := .granted 0 } }

theorem witness_ResetLinkFreesTheLine :
    (growing .assigning).hasRoom ∧
    (growing .assigning).link.line = some (onLine .echo { txn .assign 0 0 1 [1] with requester := .enumerator }) ∧
    (growing .assigning).enumerator.state = .assigning ∧ (growing .assigning).enumerator.request = .granted 0 :=
  ⟨Nat.succ_pos _, by decide⟩

/-- R38: RESET_LINK cuts off an ASSIGN and the enumerator halts with LINK_RESET. -/
theorem test_resetLink_halts :
    (after (exec (.resetLink 1) (growing .assigning)) State.reset).enumerator.haltCause = some .linkReset ∧
    (after (exec (.resetLink 1) (growing .assigning)) State.reset).link.gap = some 80 := by decide

/-- A granted transaction in the holding slot, behind a quiet gap. -/
def slotted (requester : Requester) (address : Nat) (s : State) : State :=
  { s with link := { s.link with
      slot := some { txn .read address 4 1 [] with serial := 3, requester := requester }, gap := some 7, nextSerial := 9 } }

def slottedCheck (request : EnumRequest) : State :=
  slotted .enumerator 1 { chained 4 with enumerator := { (chained 4).enumerator with
    state := .checkingDownstream, cursor := some 1, attempts := 2, request := request } }

def slottedStep (awaited : Option Nat) : State :=
  let s := atStep 4 .inLink (flagsOf true false false) (.readPoint 4 1)
  slotted .engine 4 (atPos 4 { s.pcr 4 with awaited := awaited, attempts := 2, busyRetries := 5 } s)

theorem witness_ResetLinkFreesTheLine_slot :
    ((slottedCheck (.granted 3)).hasRoom ∧ (slottedCheck (.granted 3)).enumerator.state ≠ .done ∧
      (slottedCheck (.granted 3)).link.line = none ∧ (slottedCheck (.granted 3)).link.gap.isSome = true ∧
      (slottedCheck (.granted 3)).link.breakRequested = false ∧ (slottedCheck (.granted 3)).link.breakState = .none ∧
      (slottedCheck .none).enumerator.request ≠ .granted 3) ∧
    ((slottedStep (some 3)).hasRoom ∧ ((slottedStep (some 3)).pcr 4).awaited = some 3 ∧
      ((slottedStep (some 3)).pcr 4).phase = .inLink ∧ (slottedStep (some 3)).enumerator.state ≠ .identifyingNode ∧
      ((slottedStep none).pcr 4).awaited ≠ some 3) :=
  ⟨⟨Nat.succ_pos _, by decide⟩, ⟨Nat.succ_pos _, by decide⟩⟩

/-- R19, R38, R84: what stands again is granted anew under the next serial number, its counts as they were. -/
theorem test_resetLink_returns :
    (after (exec (.resetLink 1) (slottedCheck (.granted 3))) State.reset).enumerator.request = .granted 9 ∧
    (after (exec (.resetLink 1) (slottedCheck (.granted 3))) State.reset).enumerator.attempts = 2 ∧
    (after (exec (.resetLink 1) (slottedStep (some 3))) State.reset).pcr 4 =
      { (slottedStep (some 3)).pcr 4 with awaited := some 9 } := by decide
theorem test_resetLink_drops :
    (after (exec (.resetLink 1) (slottedCheck .none)) State.reset).link.slot = none ∧
    (after (exec (.resetLink 1) (slottedStep none)) State.reset).link.slot = none := by decide

theorem witness_RestartKeepsStoresAndClearsBlocks :
    full.hasRoom ∧ State.reset.coupling.presence = false ∧ State.reset.cab.sending = none ∧
    (busyCab 1 State.reset).cab.sending = some (.reply ⟨0, 1, .ok, []⟩) := ⟨Nat.succ_pos _, by decide⟩

/-! ### Chain link -/

theorem chained_line_settled (l : OnLine) (k : Nat) (h : (withLine l (chained k)).mayGrant = false) :
    (withLine l (chained k)).settled :=
  ⟨rfl, fun h => by simp [withLine, Link.free] at h, fun g => (by rw [h] at g; cases g), fun _ => rfl, fun _ => ⟨rfl, rfl, rfl⟩⟩

theorem witness_NodeWordsMoveTheTransaction :
    let at1 := fun ph t => withLine (onLine ph t) (chained 1)
    ((at1 .echo (txn .read 1 4 2 [])).link.line = some (onLine .echo (txn .read 1 4 2 [])) ∧
      parityGood (word false 1) = true ∧ (word false 1).marked = false ∧
      (word false 1).data.toNat = (txn .read 1 4 2 []).address ∧ (at1 .echo (txn .read 1 4 2 [])).settled) ∧
    (bit (word false 24).data 0 = false ∧ bit (word false 24).data 1 = false ∧ bit (word false 24).data 2 = false ∧
      parityGood (word false 24) = true) ∧
    ((onLine .data (txn .read 1 4 2 [])).phase = .data ∧ (onLine .data (txn .sense 1 0 0 [])).txn.kind = .sense) ∧
    ((onLine .data (txn .write 1 7 1 [255])).txn.kind = .write ∧ (growing .closing).link.slot = none ∧
      (growing .closing).link.breakRequested = false ∧ (growing .closing).link.breakState = .none ∧
      ({ (growing .closing).enumerator with request := .awaiting }).state = .closing) ∧
    ((onLine .endingStatus (txn .write 1 7 1 [255])).phase = .endingStatus ∧
      (onLine .echo (txn .read 1 4 2 [])).phase ≠ .endingStatus) :=
  ⟨⟨rfl, by decide, by decide, by decide, chained_line_settled _ _ (by decide)⟩, by decide, by decide, by decide, by decide⟩

/-- Section 2.3: the echo of address 1 enters COMMAND; its own status with ATTENTION enters DATA. -/
theorem test_node_words :
    ((after (exec (.nodeWordReceived (word false 1)) (withLine (onLine .echo (txn .read 1 4 2 [])) (chained 1)))
      State.reset).link.line.map (·.phase)) = some .command ∧
    ((after (exec (.nodeWordReceived (word false 8)) (withLine (onLine .initialStatus (txn .read 1 4 2 [])) (chained 1)))
      State.reset).link.line.map (fun l => (l.phase, l.attention))) = some (.data, true) := by decide

/-- R20, R28, R29, R187: the words of a READ of two bytes from point 4 of address 1, and of a WRITE of 255 to point 7. -/
theorem test_part_words :
    (onLine .select (txn .read 1 4 2 [])).partWords = [⟨true, 1, false⟩] ∧
    (onLine .command (txn .read 1 4 2 [])).partWords = [⟨false, 0x11, true⟩, ⟨false, 4, false⟩] ∧
    (onLine .data (txn .write 1 7 1 [255])).partWords = [⟨false, 255, true⟩] ∧
    (onLine .command (txn .poll 1 0 0 [])).partWords = [⟨false, 4, false⟩] := by decide

theorem witness_EndingWordsFormTheOutcome :
    (parityGood ⟨false, 1, true⟩ = false ∧ (word true 1).marked = true ∧ (word false 2).data.toNat ≠ 1) ∧
    (parityGood (word false 2) = true ∧ bit (word false 1).data 0 = true ∧ bit (word false 2).data 1 = true ∧
      bit (word false 4).data 2 = true) ∧
    (EndingStatus.ofByte (word true 3).data = none ∧
      EndingStatus.ofByte (word true 4).data = some ⟨.unitCheck, false, false⟩ ∧
      EndingStatus.ofByte (word true 1).data = some ⟨.complete, false, false⟩ ∧
      EndingStatus.ofByte (word true 2).data = some ⟨.short, false, false⟩ ∧ parityGood (word true 2) = true) ∧
    (0 < (txn .write 1 7 1 [255]).count ∧
      (withLine (onLine .endingStatus (txn .write 1 7 1 [255])) (chained 1)).link.line =
        some (onLine .endingStatus (txn .write 1 7 1 [255])) ∧
      ∃ l', (onLine .endingStatus (txn .write 1 7 1 [255])).word (word true 1) = .ends l' (.accepted [])) :=
  ⟨by decide, by decide, by decide, by decide, rfl, ⟨_, rfl⟩⟩

def missed (n : Nat) (l : OnLine) : State :=
  let s := withLine l (chained 4)
  { s with enumerator := { s.enumerator with miss := ⟨0, n, 0, 0⟩ } }

theorem witness_SilenceCountsAMiss :
    (missed 1 (onLine .echo (txn .read 2 4 2 []))).link.line = some (onLine .echo (txn .read 2 4 2 [])) ∧
    ¬((onLine .echo (txn .read 2 4 2 [])).phase = .data ∧
      ((txn .read 2 4 2 []).kind = .write ∨ (txn .read 2 4 2 []).kind = .assign)) ∧
    ((txn .read 2 4 2 []).stale = false ∧ 1 ≤ (txn .read 1 4 2 []).address ∧ (txn .read 4 4 2 []).address ≤ 4 ∧
      (chained 4).enumerator.occupancy ≤ 4) ∧
    ((missed 1 (onLine .echo (txn .read 2 4 2 []))).enumerator.miss.get 2 + 1 < 3 ∧
      3 ≤ (missed 2 (onLine .echo (txn .read 2 4 2 []))).enumerator.miss.get 2 + 1) ∧
    (∃ t, exec .answerWindowExpiry (missed 2 (onLine .echo (txn .read 2 4 2 []))) = .next t) :=
  ⟨rfl, by decide, by decide, by decide, _, rfl⟩

/-- A part that sends its own DATA to position 2. -/
def sendingData : OnLine := onLine .data (txn .write 2 5 1 [7])

theorem witness_SilenceCountsAMiss_sending :
    ((missed 2 sendingData).link.line = some sendingData ∧ sendingData.phase = .data ∧ sendingData.txn.kind = .write) ∧
    (sendingData.txn.stale = false ∧ 1 ≤ sendingData.txn.address ∧
      sendingData.txn.address ≤ (missed 2 sendingData).enumerator.occupancy) ∧
    ((missed 1 sendingData).enumerator.miss.get 2 + 1 < 3 ∧ 3 ≤ (missed 2 sendingData).enumerator.miss.get 2 + 1) ∧
    (∃ t, exec .transactionLimitExpiry (missed 2 sendingData) = .next t) := ⟨by decide, by decide, by decide, _, rfl⟩

/-- R8: the third miss of position 2 leaves position 1 alone, and so it does by the 20 ms limit in the part's own DATA phase. -/
theorem test_third_miss :
    (after (exec .answerWindowExpiry (missed 2 (onLine .echo (txn .read 2 4 2 [])))) State.reset).enumerator.occupancy = 1 ∧
    (after (exec .transactionLimitExpiry (missed 2 sendingData)) State.reset).enumerator.occupancy = 1 := by
  decide +kernel

/-- Positions 2 to 4 hold something of everything a detach takes. -/
def laden : State :=
  let s := withLine (onLine .echo (txn .read 3 4 2 [])) (atPos 1 { waiting with state := .ready } probing)
  { s with
    link := { s.link with slot := some (txn .read 4 4 2 []) }
    enumerator := { s.enumerator with pendingChecks := [1, 2] }
    feed := { s.feed with requests := ⟨1, 2, 0, 0⟩, waiting := [1, 3] }
    translator := { mapped.translator with
      map := [⟨5, .point ⟨1, 7⟩, .direct, 0, 0⟩, ⟨6, .point ⟨2, 7⟩, .direct, 0, 0⟩]
      points := [record 7 .safety 1200 0, { record 7 .safety 1200 0 with key := ⟨2, 7⟩ }], queue := [⟨2, 7⟩] }
    scanner := { s.scanner with
      round := true, request := some (.poll 2), pollList := [3], attention := [1, 4], initialSet := [⟨⟨2, 4⟩, false⟩]
      map := [⟨⟨1, 4⟩, 3, .change, 0, none, 0⟩, ⟨⟨2, 4⟩, 3, .change, 0, none, 0⟩] } }

theorem witness_SilenceCountsAMiss_detach :
    (1 ≤ 2 ∧ 2 ≤ laden.enumerator.occupancy ∧ laden.enumerator.occupancy ≤ 4 ∧ laden.lamps.circuits.length = 10) ∧
    ((laden.detach 2 .noNode).link.slot = some { txn .read 4 4 2 [] with stale := true } ∧
      (∃ l, (laden.detach 2 .noNode).link.line = some l ∧ l.txn.address = 3) ∧
      (∃ p ∈ (laden.detach 2 .noNode).feed.waiting, p = 1) ∧ (∃ r ∈ (laden.detach 2 .noNode).translator.points, r.key = ⟨1, 7⟩)) ∧
    ((probing.detach 3 .noNode).circuit 1).holder = some ⟨2, 420⟩ :=
  ⟨by decide, ⟨by decide, ⟨_, rfl, rfl⟩, by decide, by decide⟩, by decide⟩

/-- What the detach of positions 3 and 4, or of position 4, leaves to the others. -/
theorem witness_SilenceCountsAMiss_stays :
    (∃ o ∈ laden.translator.points, o.key.pos < 2 ∧ o.gone = false) ∧
    (laden.scanner.request = some (.poll 2) ∧ (ScanWork.poll 2).position < 3) ∧
    (3 ∈ laden.scanner.pollList ∧ 3 < 4) ∧ (1 ∈ laden.scanner.attention ∧ laden.scannedAt 1 = true) ∧
    ((laden.circuit 1).holder = some ⟨2, 420⟩ ∧ 2 < 3) := by decide

/-- R9, R108: the record of position 1, the poll of position 3 and the held probe of position 2 stay. -/
theorem test_detach_leaves :
    (laden.detach 4 .noNode).translator.points.map (·.key) = [⟨1, 7⟩, ⟨2, 7⟩] ∧
    (laden.detach 4 .noNode).scanner.pollList = [3] ∧ (laden.detach 4 .noNode).circuit 1 = laden.circuit 1 := by decide

/-- R9, R108, R130, R134, R155, R163: what the detach of positions 2 to 4 leaves. -/
theorem test_detach_takes :
    let t := laden.detach 2 .noNode
    t.translator.map.map (·.target) = [.point ⟨1, 7⟩] ∧ t.scanner.map.map (·.key) = [⟨1, 4⟩] ∧ t.scanner.initialSet = [] ∧
    t.lamps.roll = [⟨1, 1, 1750⟩] ∧ t.feed.requests = ⟨1, 0, 0, 0⟩ ∧ (t.circuit 1).holder = none ∧
    t.enumerator.pendingChecks = [1] := by decide

def gapped (slot : Option Txn) (brk : Bool) : State :=
  { chained 4 with link := { Link.powerOn with gap := some 80, slot := slot, breakRequested := brk } }

theorem gapped_settled (slot : Option Txn) (brk : Bool) (h : (gapped slot brk).mayGrant = false) : (gapped slot brk).settled :=
  ⟨rfl, fun h => by simp [gapped, Link.free, Link.powerOn] at h, fun g => (by rw [h] at g; cases g), fun _ => rfl,
    fun _ => ⟨rfl, rfl, rfl⟩⟩

def breaking (b : BreakState) (requested : Bool) (e : EnumState) : State :=
  { chained 0 with
    link := { Link.powerOn with breakState := b, breakRequested := requested }
    enumerator := { (chained 0).enumerator with state := e } }

theorem breaking_settled (n : Nat) (r : Bool) (e : EnumState) : (breaking (.recovery n) r e).settled :=
  ⟨rfl, fun h => by simp [breaking, Link.free, Link.powerOn] at h,
    fun g => by simp [State.mayGrant, breaking] at g, fun _ => rfl, fun _ => ⟨rfl, rfl, rfl⟩⟩

theorem witness_GapsAndBreaksReleaseTheLine :
    ((gapped none true).link.gap = some 80 ∧ (gapped none true).settled ∧ (gapped none true).link.line = none ∧
      (gapped none true).link.breakState = .none ∧ (gapped none true).link.breakRequested = true) ∧
    ((gapped (some (txn .read 1 4 2 [])) false).settled ∧
      (gapped (some (txn .read 1 4 2 [])) false).link.slot = some (txn .read 1 4 2 [])) ∧
    ((withLine (onLine .echo (txn .read 1 4 2 [])) (gapped none false)).link.line ≠ none) ∧
    ((breaking (.low 7) false .breaking).link.breakState = .low 7 ∧
      (breaking (.recovery 7) true .breaking).link.breakState = .recovery 7 ∧ (breaking (.recovery 7) true .breaking).settled ∧
      (breaking (.recovery 7) true .breaking).link.breakRequested = true ∧
      (breaking (.recovery 7) false .breaking).link.breakRequested = false ∧
      (breaking (.recovery 7) false .breaking).enumerator.state = .breaking ∧
      (breaking (.recovery 7) false .breaking).link.gap = none ∧ (breaking (.recovery 7) false .breaking).link.slot = none ∧
      (breaking (.recovery 7) false .idle).enumerator.state = .idle) :=
  ⟨⟨rfl, gapped_settled _ _ (by decide), rfl, rfl, rfl⟩, ⟨gapped_settled _ _ (by decide), rfl⟩, by decide,
    rfl, rfl, breaking_settled _ _ _, rfl, rfl, rfl, rfl, rfl, rfl⟩

/-- A step of position p awaits a grant. -/
def asking (p pointer : Nat) : State :=
  let s := atStep p .awaitGrant (flagsOf true true false) (.readPoint 4 2)
  { s with arbiter := { s.arbiter with pointer := pointer } }

theorem witness_HighestLevelIsGranted :
    (asking 1 4).mayGrant = true ∧ (∀ m, 1 ≤ m → m < 4 → (asking 1 4).standing m = none) ∧
    (asking 1 4).standing 4 = some (.step 1) ∧ 1 ≤ (asking 1 4).arbiter.pointer ∧ (asking 1 4).arbiter.pointer ≤ 4 := by
  refine ⟨by decide, fun m h1 h2 => ?_, by decide, by decide, by decide⟩
  exact upTo4 (P := fun m => m < 4 → (asking 1 4).standing m = none) (by decide) (by decide) (by decide)
    (fun h => absurd h (by decide)) m h1 (by omega) h2

/-- A COMFORT record queued before a SAFETY one. -/
def writing : State :=
  let s := fiveLoads 3 []
  { s with translator := { s.translator with queue := [⟨1, 13⟩, ⟨1, 7⟩] } }

theorem witness_HighestLevelIsGranted_writes :
    writing.mayGrant = true ∧ ordered OutRec.before writing.translator.points ∧
    (writing.translator.queue = [⟨1, 13⟩] ++ (record 7 .safety 1200 255).key :: [] ∧
      record 7 .safety 1200 255 ∈ writing.translator.points ∧
      (∀ x ∈ writing.translator.points, x.key ∈ [(⟨1, 13⟩ : PointKey)] → x.cls ≠ .safety)) ∧
    writing.translator.queue = [] ++ (record 13 .comfort 1500 255).key :: [⟨1, 7⟩] ∧
    (∀ r ∈ (fiveLoads 3 []).translator.points, r.key ∈ (fiveLoads 3 []).translator.queue → r.cls ≠ .comfort) := by
  refine ⟨by decide, ?_, by decide, by decide, by decide⟩
  unfold ordered; decide

/-- R40, R110: the SAFETY record behind a COMFORT one is granted first. -/
theorem test_safety_first : (writing.arbitrate.link.slot.map (·.point)) = some 7 := by decide

/-! ### Waits, engine, scanner -/

def timed : State :=
  let s := withLine (onLine .echo (txn .read 1 4 2 [])) (atPos 4 { running 0 .timer with busyTimer := some 9 } (chained 4))
  { s with enumerator := { s.enumerator with passWait := some 9, busyWait := some 9 } }

theorem timed_settled : timed.settled :=
  ⟨rfl, fun h => by simp [timed, withLine, Link.free] at h, fun h => absurd h (by decide), fun _ => rfl, fun _ => ⟨rfl, rfl, rfl⟩⟩

theorem witness_WaitsEndInNewRequests :
    timed.enumerator.passWait = some 9 ∧ timed.enumerator.busyWait = some 9 ∧ (timed.pcr 4).busyTimer = some 9 ∧
    timed.settled ∧ timed.mayGrant = false ∧ (growing .assigning).enumerator.state ≠ .done :=
  ⟨rfl, rfl, rfl, timed_settled, by decide, by decide⟩

def waits (i : Nat) (f : StepFlags) (hold : Bool) : State :=
  let st := [Descriptor.step f (.wait 5), .step f (.wait 5), .step f (.wait 5), .step f (.wait 5)]
  loaded st (atPos 4 { running i .timer with waitTimer := some 9, holdPending := hold, executed := 255 } (chained 4))

theorem waits_settled (i : Nat) (f : StepFlags) (hold : Bool) : (waits i f hold).settled :=
  ⟨rfl, fun _ => ⟨rfl, rfl⟩, fun _ => rfl, fun _ => rfl, fun _ => ⟨rfl, rfl, rfl⟩⟩

theorem witness_WaitExpiryCompletesTheStep :
    (((waits 0 (flagsOf false false false) false).pcr 4).waitTimer = some 9 ∧
      ((waits 0 (flagsOf false false false) false).pcr 4).stepIndex = some 0 ∧
      (waits 0 (flagsOf false false false) false).stepAt 0 = .step (flagsOf false false false) (.wait 5) ∧
      (waits 0 (flagsOf false false false) false).settled ∧
      ((waits 0 (flagsOf false false false) false).pcr 4).phase = .timer) ∧
    ((waits 3 (flagsOf true false false) false).stepAt 3 = .step (flagsOf true false false) (.wait 5) ∧
      3 + 1 = ((waits 3 (flagsOf true false false) false).runProfile 4).firstStep +
        ((waits 3 (flagsOf true false false) false).runProfile 4).stepCount) ∧
    (2 + 1 ≠ ((waits 2 (flagsOf true false false) true).runProfile 4).firstStep +
        ((waits 2 (flagsOf true false false) true).runProfile 4).stepCount ∧
      ((waits 2 (flagsOf true false false) true).pcr 4).holdPending = true ∧
      ((waits 2 (flagsOf true false false) false).pcr 4).holdPending = false ∧
      ((waits 2 (flagsOf true false false) false).pcr 4).executed < 256 ∧
      (waits 2 (flagsOf true false false) false).stepAt (2 + 1) = .step (flagsOf true false false) (.wait 5)) :=
  ⟨⟨rfl, rfl, rfl, waits_settled _ _ _, rfl⟩, by decide, by decide⟩

theorem witness_ScanPeriodStartsARound :
    timed.settled ∧ timed.mayGrant = false ∧ ({ timed.scanner with round := true }).round = true ∧
    timed.scanner.round = false ∧ timed.scanner.request = none ∧ timed.scanner.attention = [] ∧
    allPositions.filter (fun q => timed.occupied q && (timed.pcr q).state != .identifying) = 1 :: [2, 3, 4] :=
  ⟨timed_settled, by decide, rfl, rfl, rfl, rfl, by decide⟩

/-- One entry of each filter, each with 50 last reported. -/
def filters : State :=
  { chained 4 with scanner := { State.reset.scanner with
      map := [⟨⟨1, 4⟩, 3, .change, 0, some 50, 0⟩, ⟨⟨1, 6⟩, 4, .delta, 5, some 50, 0⟩, ⟨⟨1, 8⟩, 5, .delta, 5, none, 0⟩] } }

theorem witness_DeliveredChangesPassTheFilter :
    ordered ReportEntry.before filters.scanner.map ∧ (∀ e ∈ filters.scanner.map, e.key ≠ ⟨1, 10⟩) ∧
    (∃ e ∈ filters.scanner.map, e.key = ⟨1, 6⟩ ∧ e.last = some 50 ∧ e.threshold ≤ 55 - 50 ∧ e.threshold ≤ 50 - 45) := by
  refine ⟨?_, by decide, by decide⟩
  unfold ordered
  decide

/-- A round with a piece of work of each kind left. -/
def scanning (attention polls : List Nat) (initial : List InitialKey) (outstanding : List ScanOutstanding) : State :=
  let ready := { waiting with state := .ready }
  { filters with pcrs := ⟨ready, ready, ready, ready⟩, scanner := { filters.scanner with
      round := true, overdue := true, attention := attention, pollList := polls, initialSet := initial
      outstanding := outstanding } }

/-- A transaction of the scanner that has ended. -/
def scanned (o : TxnOutcome) (e : Option EndingStatus) : Ended :=
  { txn := { txn .read 1 4 2 [] with requester := .scanner (.poll 1) }, outcome := o, initial := none, ending := e, attention := false
    downstreamChange := false }

theorem witness_DeliveredChangesPassTheFilter_choice :
    ((scanning [2] [3] [] []).scanner.request = none ∧ (scanning [2] [3] [] []).scanner.round = true) ∧
    ((scanning [2] [3] [] []).scanner.attention.filter (scanning [2] [3] [] []).scannedAt = 2 :: [] ∧
      (scanning [] [3] [] []).scanner.pollList = 3 :: []) ∧
    ((scanning [] [] [⟨⟨1, 4⟩, true⟩, ⟨⟨1, 6⟩, false⟩] []).scanner.initialSet = [⟨⟨1, 4⟩, true⟩] ++ ⟨⟨1, 6⟩, false⟩ :: [] ∧
      (scanning [] [] [] []).scannedAt 1 = true ∧ (scanning [] [] [] []).scannedAt 5 = false) ∧
    ((∀ i ∈ (scanning [] [] [⟨⟨1, 4⟩, true⟩] []).scanner.initialSet, i.tried = true) ∧
      (scanning [] [] [] []).scanner.outstanding = [] ∧ (scanning [] [] [] [⟨0, .poll 1⟩]).scanner.outstanding ≠ []) ∧
    filters.scanner.round = false := by decide

theorem witness_DeliveredChangesPassTheFilter_outcomes :
    ((scanned (.accepted [4, 1, 0, 0, 0, 0]) none).txn.stale = false ∧
      (∃ x, (scanned (.accepted []) (some ⟨.complete, true, false⟩)).ending = some x ∧ x.attention = true) ∧
      (scanned (.accepted []) none).ending = none) ∧
    ((scanned (.length 4 [1, 2]) none).outcome = .length 4 [1, 2] ∧ ([1, 2] : List Byte).length < 3 ∧
      ([1, 2, 3, 4, 5] : List Byte) = 1 :: 2 :: 3 :: [4, 5] ∧ ([4, 5] : List Byte).length < 3) ∧
    (ordered ReportEntry.before (scanning [] [] [⟨⟨1, 4⟩, true⟩] []).scanner.map ∧
      (∃ i ∈ (scanning [] [] [⟨⟨1, 4⟩, true⟩] []).scanner.initialSet, i.key = ⟨1, 4⟩) ∧
      (∃ x ∈ (scanning [] [] [] []).scanner.map, x.key = ⟨1, 4⟩) ∧
      (∀ x ∈ (scanning [] [] [] []).scanner.map, x.key ≠ ⟨1, 10⟩) ∧
      (∀ i ∈ (scanning [] [] [] []).scanner.initialSet, i.key ≠ ⟨1, 4⟩)) ∧
    ((scanning [] [] [] []).scanner.request = none ∧ (txn .read 1 4 2 []).stale = false ∧
      ({ txn .read 1 4 2 [] with stale := true } : Txn).stale = true) := by
  refine ⟨⟨rfl, ⟨_, rfl, rfl⟩, rfl⟩, by decide, ⟨?_, by decide⟩, by decide⟩
  unfold ordered; decide

/-- R126: a change list of two entries is delivered first to last, and its ATTENTION brings the position back. -/
theorem test_change_list :
    let t := (scanning [] [] [] [⟨0, .changeList 1⟩]).scanEnded (.changeList 1)
      (scanned (.accepted [4, 60, 0, 6, 55, 0]) (some ⟨.complete, true, false⟩))
    t.cab.reports = [⟨3, 1, 60⟩, ⟨4, 1, 55⟩] ∧ t.scanner.request = some (.changeList 1) := by decide

/-! ### Output writes -/

/-- The five loads with their duties applied, and a write of the first in flight. -/
def inFlight (retiring : Bool) (accepted : Option Nat) (write : WriteState) (v : Option Nat) : State :=
  let x := { record 7 .safety 1200 (if retiring then 0 else 255) with
    applied := if retiring then 0 else 255, accepted := accepted, retiring := retiring, write := write, inFlight := v }
  let s := { chained 2 with translator := { State.reset.translator with points := [x] } }
  { s with feed := { s.feed with budget := 1, limit := 1, requests := ⟨1, 0, 0, 0⟩, target := 1
                                 floor := if retiring then 0 else 1, demand := if retiring then 0 else 1200 } }

def wrote (o : TxnOutcome) : Ended :=
  { txn := { txn .write 1 7 1 [255] with requester := .translator }, outcome := o, initial := none, ending := none
    attention := false, downstreamChange := false }

/-- The record of point 7 of position 1. -/
def first (s : State) : OutRec := (s.findOut ⟨1, 7⟩).getD (record 7 .safety 0 0)

/-- A write in flight, one of a retiring record, one whose record rests at its duty, and a record at rest. -/
def writes : List State :=
  [inFlight false none .inFlight (some 255), inFlight true (some 0) .inFlight (some 0),
   inFlight false (some 255) .inFlight (some 9), inFlight false (some 255) .idle none]

theorem writes_good : ∀ s ∈ writes, s.tablesGood ∧ s.dutiesGood := by
  unfold State.tablesGood State.dutiesGood ordered
  decide

theorem witness_OutputWritesFollowTheirOutcomes :
    let a := inFlight false none .inFlight (some 255)
    ((wrote .timeout).txn.address = (first a).key.pos ∧ (wrote .timeout).txn.point = (first a).key.point ∧
      (wrote .timeout).txn.stale = false ∧ a ∈ writes ∧ first a ∈ a.translator.points ∧
      (first a).write = .inFlight ∧ (first a).inFlight = some 255 ∧ (first a).faulted = false ∧
      (first a).key ∉ a.translator.queue ∧
      (∀ o ∈ a.translator.points, o.key ≠ (first a).key → o.gone = false ∧ o.evaluated = o)) ∧
    ((first a).accepted ≠ some (first a).applied ∧ (first (inFlight true (some 0) .inFlight (some 0))).retiring = true ∧
      (first (inFlight false (some 255) .inFlight (some 9))).accepted = some 255) ∧
    ((∃ st, (wrote (.nodeStatus ⟨false, true, false, false, false⟩)).outcome = .nodeStatus st ∧ st.unitCheck = true) ∧
      1 ≤ (first a).key.pos ∧ (a.pcr 1).state ≠ .empty) ∧
    ((first (inFlight false (some 255) .idle none)).write = .idle ∧ (first (inFlight false none .queued none)).write = .queued ∧
      (first (inFlight false none .idle none)).applied = 255 ∧ (first (inFlight true (some 9) .queued none)).retiring = true) ∧
    ordered OutRec.before a.translator.points := by
  exact ⟨by decide +kernel, by decide, ⟨⟨_, rfl, rfl⟩, by decide, by decide⟩, by decide,
    List.pairwise_singleton _ _⟩

theorem witness_OutputWritesFollowTheirOutcomes_evaluation :
    let r := record 7 .safety 1200 255
    (r.faulted = false ∧ r.accepted ≠ some r.applied ∧ ¬(r.retiring = true) ∧ r.write = .idle) ∧
    ({ r with write := .queued, accepted := some 0 }).accepted = some r.applied ∧
    ({ r with retiring := true, accepted := some 0 }).accepted = some 0 := by decide

/-- R54, R109: the node has taken the duty, and the record leaves the queue; it has taken 9, and an idle record joins it; one in
flight keeps its write; a retiring record at 0 goes. -/
theorem test_run_write_noted :
    let noted := fun retiring write b => ((inFlight retiring (some 7) write none).noteRunWrite ⟨1, 7⟩ [b]).translator
    (noted false .queued 255).points.map (fun r => (r.accepted, r.write)) = [(some 255, .idle)] ∧
    (noted false .idle 9).queue = [⟨1, 7⟩] ∧
    (noted false .inFlight 9).points.map (fun r => (r.accepted, r.write)) = [(some 9, .inFlight)] ∧
    (noted true .queued 0).points = [] := by decide

/-- R112: an ACCEPTED write of 255 rests; one that fails is queued again; a UNIT_CHECK makes the record faulted. -/
theorem test_write_outcomes :
    let a := inFlight false none .inFlight (some 255)
    (first (a.writeEnded (wrote (.accepted [])))).accepted = some 255 ∧ (a.writeEnded (wrote .timeout)).translator.queue = [⟨1, 7⟩] ∧
    (first (a.writeEnded (wrote (.nodeStatus ⟨false, true, false, false, false⟩)))).faulted = true ∧
    ((inFlight true none .inFlight (some 0)).writeEnded (wrote (.accepted []))).translator.points = [] := by decide

/-- R127: a DELTA of 5 lets 55 and 45 through and keeps 54; a CHANGE keeps 50. -/
theorem test_filters :
    (filters.deliverChange ⟨1, 6⟩ 55).cab.reports = [⟨4, 1, 55⟩] ∧ (filters.deliverChange ⟨1, 6⟩ 45).cab.reports = [⟨4, 1, 45⟩] ∧
    (filters.deliverChange ⟨1, 6⟩ 54).cab.reports = [] ∧ (filters.deliverChange ⟨1, 4⟩ 50).cab.reports = [] ∧
    (filters.deliverChange ⟨1, 8⟩ 0).cab.reports = [⟨5, 1, 0⟩] := by decide

def control (op : StepOp) : State := atStep 1 .idle (flagsOf true false false) op

theorem witness_ControlStepsActAtOnce :
    ((control (.count (-1))).pcr 1).state = .bringingUp ∧ ((control (.count (-1))).pcr 1).executed < 256 ∧
    ((control (.count (-1))).pcr 1).stepIndex = some 0 ∧
    (control (.count (-1))).stepAt 0 = .step (flagsOf true false false) (.count (-1)) ∧
    (control (.setCount (-128))).stepAt 0 = .step (flagsOf true false false) (.setCount (-128)) ∧
    (control (.test .above 65535 15)).stepAt 0 = .step (flagsOf true false false) (.test .above 65535 15) := by decide

/-- R86: a TEST of V above 65535 never holds, so its target outside the range does no harm. -/
theorem test_control_untaken : (((control (.test .above 65535 15)).beginStep 1).pcr 1).stepIndex = some 1 := by decide

/-- The map and the table full, as the steps of position 1 find them. -/
def crowdedStep (op : StepOp) : State :=
  { control op with translator := { crowded.translator with
      points := (List.range 96).map (fun n => { record (5 + 2 * n) .safety 10 0 with key := ⟨1, 5 + 2 * n⟩ }) }
                    scanner := crowded.scanner }

theorem witness_ControlStepsActAtOnce_bindings :
    (((crowdedStep (.bindOut 127 3 .safety 9 .direct 0)).pcr 1).state = .bringingUp ∧
      (crowdedStep (.bindOut 127 3 .safety 9 .direct 0)).stepAt 0 =
        .step (flagsOf true false false) (.bindOut 127 3 .safety 9 .direct 0) ∧
      96 ≤ (crowdedStep .sense).translator.map.length ∧ 96 ≤ (crowdedStep .sense).translator.points.length ∧
      64 ≤ (crowdedStep .sense).scanner.map.length) ∧
    ((¬ ∃ o ∈ (crowdedStep .sense).translator.map, o.code = 127 ∧ o.target = .point ⟨1, 3⟩) ∧
      (¬ ∃ o ∈ (crowdedStep .sense).scanner.map, o.key = ⟨1, 132⟩) ∧
      ∃ o ∈ (crowdedStep .sense).scanner.map, o.key = ⟨1, 130⟩) ∧
    ((control (.bindOut 9 7 .comfort 9 .scale 128)).translator.map.length < 96 ∧
      (control (.bindOut 9 7 .comfort 9 .scale 128)).translator.points.length < 96 ∧
      (control (.bindIn 6 3 .delta 1)).scanner.map.length < 64 ∧
      (control (.bindLoad 10 8191)).lamps.circuits.length = 10 ∧
      ((withCircuit 10 { Circuit.off with lamp := .shorted } (control (.bindLoad 10 8191))).circuit 10).lamp = .shorted) := by
  decide

theorem control_tablesGood (op : StepOp) : (control op).tablesGood :=
  ⟨.nil, Nat.zero_le _, nofun, .nil, Nat.zero_le _, .nil, Nat.zero_le _, .nil⟩

theorem witness_ControlStepsActAtOnce_timed :
    let ask := fun (feed : Feed) (cls : Nat) => ({ control (.feedRequest cls) with feed := feed } : State)
    let lamp := fun (x : Circuit) (now : Nat) => ({ withCircuit 10 x (control (.lampProbe 10 420)) with now := now } : State)
    ((ask State.reset.feed 0).feed.waiting = [] ∧ 0 ≤ ((ask State.reset.feed 0).beginStep 1).feed.budget ∧
      (((ask State.reset.feed 7).beginStep 1).feed.budget < 7 ∧
        ((ask State.reset.feed 7).beginStep 1).feed.movement = .settling) ∧
      (((ask { State.reset.feed with zone := .trip } 7).beginStep 1).feed.budget < 7 ∧
        ((ask { State.reset.feed with zone := .trip } 7).beginStep 1).feed.movement ≠ .settling)) ∧
    (((lamp { Circuit.off with lamp := .shorted } 0).circuit 10).lamp = .shorted ∧
      (((lamp { Circuit.off with holder := some ⟨2, 420⟩ } 0).circuit 10).holder.isSome = true ∧
        (∀ w ∈ ((lamp { Circuit.off with holder := some ⟨2, 420⟩ } 0).circuit 10).probes, w.pos ≠ 1) ∧
        (∃ w ∈ ((lamp { Circuit.off with holder := some ⟨1, 420⟩ } 0).circuit 10).probes, w.pos = 1)) ∧
      ((lamp Circuit.off 0).circuit 10).lamp ≠ .shorted ∧ ((lamp Circuit.off 0).circuit 10).holder = none ∧
      ((lamp Circuit.off 0).circuit 10).waiters = [] ∧ ((lamp Circuit.off 0).circuit 10).output = false ∧
      ((lamp lit 49999).circuit 10).output = true ∧
      (lamp lit 49999).now - ((lamp lit 49999).circuit 10).onSince < 50000 ∧
      50000 ≤ (lamp lit 50000).now - ((lamp lit 50000).circuit 10).onSince) := by decide

/-- R88, R149: a FEED_REQUEST of 7 from an idle feed waits for the settle; R160: a probe of an OFF circuit forces it ON. -/
theorem test_timed_steps :
    ((control (.feedRequest 7)).beginStep 1).feed.waiting = [1] ∧
    ((control (.feedRequest 7)).beginStep 1).feed.limit = 7 ∧
    (((control (.lampProbe 10 420)).beginStep 1).circuit 10).pulse = some 100000 := by decide

/-- R150, R160: behind a holder a position joins the tail of the waiters, and no position is there twice. -/
theorem test_probe_waiters :
    let asked := fun ws => ((withCircuit 10 { Circuit.off with holder := some ⟨2, 9⟩, waiters := ws }
      (control (.lampProbe 10 420))).beginStep 1).circuit 10
    (asked [⟨3, 9⟩]).waiters = [⟨3, 9⟩, ⟨1, 420⟩] ∧ (asked [⟨1, 9⟩]).waiters = [⟨1, 9⟩] := by decide

theorem witness_StepFaultsFollowTheFlags :
    let s := atStep 4 .inLink (flagsOf true true true) (.readPoint 4 2)
    (s.pcr 4).stepIndex = some 0 ∧ s.stepAt 0 = .step (flagsOf true true true) (.readPoint 4 2) ∧
    (flagsOf true true true).suppress = true ∧ (flagsOf true true false).suppress = false ∧
    (flagsOf true true false).critical = true ∧ (flagsOf true false false).critical = false ∧
    (Cause.timeout ≠ .length ∧ Cause.timeout ≠ .probeMismatch ∧ Cause.timeout ≠ .feedClamped) := by decide

/-- A step of position 1 whose transaction has ended. -/
def awaiting (attempts busy : Nat) (sensing : Bool) (op : StepOp) : State :=
  let s := atStep 1 .inLink (flagsOf true true false) op
  atPos 1 { s.pcr 1 with awaited := some 0, attempts := attempts, busyRetries := busy, senseInProgress := sensing } s

def ended (o : TxnOutcome) : Ended :=
  { txn := txn .read 1 4 2 [], outcome := o, initial := none, ending := none, attention := false, downstreamChange := false }

theorem witness_StepOutcomesAreTaken :
    (1 ≤ (ended .noNode).txn.address ∧ (ended .noNode).txn.address ≤ 4 ∧
      ((awaiting 1 4 false (.readPoint 4 2)).pcr 1).stepIndex = some 0 ∧
      (awaiting 1 4 false (.readPoint 4 2)).stepAt 0 = .step (flagsOf true true false) (.readPoint 4 2)) ∧
    ((ended .noNode).txn.stale = false ∧
      ((awaiting 1 4 false (.readPoint 4 2)).pcr 1).awaited = some (ended .noNode).txn.serial ∧
      ((awaiting 1 4 false (.readPoint 4 2)).pcr 1).senseInProgress = false ∧
      ((awaiting 1 4 true (.readPoint 4 2)).pcr 1).senseInProgress = true) ∧
    (((awaiting 1 4 false (.readPoint 4 2)).pcr 1).attempts + 1 < 3 ∧
      3 ≤ ((awaiting 2 5 false (.readPoint 4 2)).pcr 1).attempts + 1 ∧
      ((awaiting 1 4 false (.readPoint 4 2)).pcr 1).busyRetries < 5 ∧
      5 ≤ ((awaiting 2 5 false (.readPoint 4 2)).pcr 1).busyRetries) ∧
    ((chained 4).pcr 1).awaited ≠ some (ended .noNode).txn.serial := by decide

/-- R76: the two bytes of a READ_POINT, least significant first, are V. -/
theorem test_readPoint_value :
    (((awaiting 0 0 false (.readPoint 4 2)).engineEnded (ended (.accepted [0x34, 0x12]))).pcr 1).v = 0x1234 := by decide

/-- The step of position 1 with flags of its own. -/
def awaitingWith (f : StepFlags) (op : StepOp) : State :=
  let s := atStep 1 .inLink f op
  atPos 1 { s.pcr 1 with awaited := some 0, attempts := 2, busyRetries := 5 } s

theorem witness_StepOutcomesAreTaken_lengths :
    let s := awaitingWith (flagsOf true false true) (.readPoint 4 2)
    ((s.pcr 1).stepIndex = some 0 ∧ s.stepAt 0 = .step (flagsOf true false true) (.readPoint 4 2) ∧
      (s.pcr 1).awaited = some (ended (.length 1 [7])).txn.serial ∧ (s.pcr 1).senseInProgress = false) ∧
    ((ended (.length 1 [7])).outcome = .length 1 [7] ∧ (flagsOf true false true).suppress = true ∧
      (flagsOf true false true).skip = false ∧ (flagsOf true false false).suppress = false ∧ (2 : Nat) ≤ 2) ∧
    ((awaitingWith (flagsOf true false true) (.writePoint 5 2 false 700)).stepAt 0 =
        .step (flagsOf true false true) (.writePoint 5 2 false 700) ∧
      (awaitingWith (flagsOf true false false) .sense).stepAt 0 = .step (flagsOf true false false) .sense ∧
      ([1, 2, 3, 4] : List Byte).length ≤ 4) ∧
    (3 ≤ (s.pcr 1).attempts + 1 ∧ 5 ≤ (s.pcr 1).busyRetries ∧ (flagsOf true false true).critical = false) := by decide

/-- R74, R82: LENGTH with SUPPRESS takes the byte received; without CRITICAL a fault sets the cause and goes on. -/
theorem test_length_outcomes :
    (((awaitingWith (flagsOf true false true) (.readPoint 4 2)).engineEnded (ended (.length 1 [7]))).pcr 1).v = 7 ∧
    (((awaitingWith (flagsOf true false false) (.readPoint 4 2)).engineEnded (ended (.length 1 [7]))).pcr 1).cause =
      some .length ∧
    (((awaitingWith (flagsOf true false false) (.readPoint 4 2)).engineEnded (ended .timeout)).pcr 1).stepIndex = some 1 := by
  decide

theorem witness_MatchingTakesTheFirstSlot :
    startable.matchSlot (some ⟨7, 9, 1⟩) = some 0 ∧ startable.matchSlot (some ⟨8, 200, 1⟩) = some 0 ∧
    (chained 4).matchSlot (some ⟨7, 9, 1⟩) = none := by decide
theorem witness_MatchingTakesTheFirstSlot_unread : startable.matchSlot none = some 0 ∧ (chained 4).matchSlot none = none := by
  decide

/-- The enumerator's own transaction, granted under serial 0, with k positions and the cursor at c. -/
def enumerating (state : EnumState) (k c attempts : Nat) : State :=
  { startable with enumerator := { startable.enumerator with
      state := state, occupancy := k, cursor := some c, request := .granted 0, attempts := attempts } }

def enumEnd (o : TxnOutcome) : Ended :=
  { txn := { txn .read 1 0 4 [] with requester := .enumerator }, outcome := o, initial := none, ending := none
    attention := false, downstreamChange := false }

theorem witness_MatchingTakesTheFirstSlot_enumeration :
    ((enumEnd .noNode).txn.stale = false ∧
      (enumerating .assigning 3 4 0).enumerator.request = .granted (enumEnd .noNode).txn.serial ∧
      (chained 4).enumerator.request ≠ .granted (enumEnd .noNode).txn.serial) ∧
    ((enumerating .assigning 3 4 0).enumerator.at = 4 ∧ (enumerating .identifyingNode 4 4 0).enumerator.at = 4 ∧
      (enumerating .identifyingNode 4 4 0).matchSlot (some ⟨7, 3, 20⟩) = some 0 ∧
      (chained 4).matchSlot (some ⟨7, 3, 20⟩) = none ∧ (20 : Byte) ≠ 0 ∧
      (enumerating .identifyingNode 4 4 0).params.autoStart = 0 ∧
      (enumerating .identifyingNode 4 4 0).coupling.lock = true) ∧
    ((enumerating .checkingDownstream 4 1 0).enumerator.at < (enumerating .checkingDownstream 4 1 0).enumerator.occupancy ∧
      (enumerating .checkingDownstream 3 3 0).enumerator.at = 3 ∧
      (enumerating .checkingDownstream 4 4 0).enumerator.at = (enumerating .checkingDownstream 4 4 0).enumerator.occupancy) ∧
    ((enumerating .closing 3 3 1).enumerator.attempts + 1 < 3 ∧ 3 ≤ (enumerating .closing 3 3 2).enumerator.attempts + 1 ∧
      (∃ st, (enumEnd (.nodeStatus ⟨true, false, false, false, false⟩)).outcome = .nodeStatus st ∧ st.busy = true) ∧
      (enumEnd (.length 1 [7])).outcome = .length 1 [7]) := by
  exact ⟨by decide, by decide, by decide, by decide, by decide, ⟨_, rfl, rfl⟩, rfl⟩

/-- R12, R13, R15: an ASSIGN accepted at 4, an identity matched, and a fourth node with its downstream connected. -/
theorem test_enumeration_outcomes :
    ((enumerating .assigning 3 4 0).enumEnded (enumEnd (.accepted []))).enumerator.occupancy = 4 ∧
    (((enumerating .identifyingNode 4 4 0).enumEnded (enumEnd (.accepted [7, 0, 3, 20]))).pcr 4).profileSlot = some 0 ∧
    ((enumerating .checkingDownstream 4 4 0).enumEnded (enumEnd (.accepted [1]))).ev.notices = [.other .chainTooLong] ∧
    ((enumerating .closing 3 3 2).enumEnded (enumEnd .timeout)).enumerator.haltCause = some .timeout := by decide

/-! ### Feed and lamps -/

/-- The five loads of section 7.8 with everything that follows from them. -/
def fed : State :=
  let s := fiveLoads 3 []
  let s := { s with feed := { s.feed with requests := ⟨3, 0, 0, 0⟩, demand := 2100, floor := 2, target := 3 } }
  s.applyBudget

/-- The same with a duty accepted for point 13, and with the record in the hold set of a lower from class 4. -/
def accepting (accepted : Option Nat) : State :=
  { fed with translator := { fed.translator with
      points := fed.translator.points.map (fun r => if r.key = ⟨1, 13⟩ then { r with accepted := accepted } else r) } }
def holding (accepted : Option Nat) : State :=
  let s := accepting accepted
  { s with feed := { s.feed with limit := 4, movement := .holding, holdTimer := some 9, holdSet := [⟨1, 13⟩] } }

/-- SETTLING from class 2 to 4. -/
def moving (target : Nat) : State :=
  { chained 2 with feed := { State.reset.feed with
      limit := 4, budget := 2, target := target, movement := .settling, settleTimer := some 9, holdTimer := some 9 } }

theorem witness_ArithmeticKeepsTheBudget :
    (fed.feed.movement = .steady ∧ fed.feed.budget = 3 ∧ (moving 4).feed.movement = .settling ∧ (moving 4).feed.budget = 2 ∧
      (holding none).feed.movement = .holding ∧ (holding none).feed.budget = 3) ∧
    (ordered OutRec.before (holding none).translator.points ∧ ((holding (some 255)).lowerFeed 2).feed.holdSet ≠ [] ∧
      (fed.lowerFeed 2).feed.holdSet = [] ∧ (holding none).checkHold.feed.holdSet = [] ∧
      (holding (some 255)).checkHold.feed.holdSet ≠ [] ∧ fed.feed.movement ≠ .holding) ∧ fed.dutiesGood := by
  refine ⟨by decide, ⟨?_, by decide⟩, ?_⟩
  · unfold ordered; decide
  · unfold State.dutiesGood; decide

/-- R140, R141: a record accepted at 255 holds a lower to class 2, whose duty for it is 112; accepted at 231, class 3 holds. -/
theorem test_hold_set :
    ((accepting (some 255)).lowerFeed 2).feed.holdSet = [⟨1, 13⟩] ∧ ((accepting (some 255)).lowerFeed 2).feed.limit = 3 ∧
    ((accepting (some 112)).lowerFeed 2).feed.limit = 2 ∧ (holding (some 231)).checkHold.feed.limit = 3 ∧
    (holding (some 232)).checkHold.feed.limit = 4 := by decide

theorem witness_FeedInputsMoveTheTarget :
    (fiveLoads 3 []).feed.waiting = [] ∧ Zone.warm ≠ .trip ∧ (fiveLoads 1 []).feed.movement = .steady ∧
    (fiveLoads 1 []).feed.target ≠ 2 ∧ (fiveLoads 1 []).feed.budget < 2 ∧ (fiveLoads 3 []).hasRoom :=
  ⟨by decide, by decide, by decide, by decide, by decide, Nat.succ_pos _⟩

theorem witness_FeedInputsMoveTheTarget_lowers :
    let zoned := fun (s : State) => after (exec (.thermalZoneEvent .hot) s) State.reset
    (fed.feed.waiting = [] ∧ fed.feed.movement = .steady ∧ fed.feed.target ≠ (zoned fed).feed.target ∧
      (zoned fed).feed.target < fed.feed.budget ∧ (zoned fed).feed.holdSet = []) ∧
    ((accepting (some 255)).feed.movement = .steady ∧ (zoned (accepting (some 255))).feed.target < 3 ∧
      (zoned (accepting (some 255))).feed.holdSet ≠ []) := by decide

/-- Section 7.8: at class 1 a zone event finds the floor of 2 and raises the feed to it. -/
theorem test_zone_raise :
    (after (exec (.thermalZoneEvent .warm) (fiveLoads 1 [])) State.reset).feed.limit = 2 ∧
    (after (exec (.thermalZoneEvent .warm) (fiveLoads 1 [])) State.reset).feed.settleTimer = some 20000 := by decide

theorem witness_FeedTimersEndTheirMovements :
    (moving 4).feed.settleTimer = some 9 ∧ (moving 4).feed.holdTimer = some 9 ∧ (moving 4).feed.waiting = [] ∧
    (moving 4).feed.target ≤ (moving 4).feed.limit ∧ (moving 5).feed.limit < (moving 5).feed.target := by decide

/-- Position 1 alone at a FEED_REQUEST step of class cls, the feed at budget class 2. -/
def feedWaits (cls limit target : Nat) (movement : Movement) : State :=
  let s := atStep 1 .feed (flagsOf false false false) (.feedRequest cls)
  { s with feed := { s.feed with
      waiting := [1], requests := ⟨cls, 0, 0, 0⟩, limit := limit, budget := 2, target := target, movement := movement
      settleTimer := some 9, holdTimer := some 9 } }

theorem feedWaits_waits (cls limit target : Nat) (m : Movement) :
    (feedWaits cls limit target m).waitsForFeed 1 cls (flagsOf false false false) :=
  ⟨rfl, by decide, by decide, rfl, rfl, rfl, rfl, 0, rfl, rfl⟩

/-- A step that each expiry grants, one that it clamps, and one that waits on. -/
theorem witness_FeedTimersEndTheirMovements_waiting :
    let settled := fun s => after (exec .settleTimerExpiry s) State.reset
    let lowered := fun s => after (exec .lowerHoldTimerExpiry s) State.reset
    (feedWaits 4 4 4 .settling).feedAlone ∧
    4 ≤ (settled (feedWaits 4 4 4 .settling)).feed.budget ∧
    ((settled (feedWaits 6 4 6 .settling)).feed.budget < 6 ∧ (settled (feedWaits 6 4 6 .settling)).feed.movement = .settling) ∧
    ((settled (feedWaits 4 4 3 .settling)).feed.budget < 4 ∧ (settled (feedWaits 4 4 3 .settling)).feed.movement ≠ .settling) ∧
    2 ≤ (lowered (feedWaits 2 4 2 .holding)).feed.budget ∧
    ((lowered (feedWaits 4 4 2 .holding)).feed.budget < 4 ∧ (lowered (feedWaits 4 4 2 .holding)).feed.movement ≠ .settling) :=
  ⟨.inr ⟨_, _, _, feedWaits_waits 4 4 4 .settling⟩, by decide, by decide, by decide, by decide, by decide⟩

/-- The same three of a zone event and of FEED_CAP. -/
theorem witness_FeedInputsMoveTheTarget_waiting :
    let zoned := fun z s => after (exec (.thermalZoneEvent z) s) State.reset
    let capped := fun cap s => after (exec (.setParam 1 2 cap) s) State.reset
    ((feedWaits 2 4 4 .settling).feedAlone ∧ (feedWaits 2 4 4 .settling).hasRoom) ∧
    (2 ≤ (zoned .hot (feedWaits 2 4 4 .settling)).feed.budget ∧ 2 ≤ (capped 2 (feedWaits 2 4 4 .settling)).feed.budget) ∧
    ((zoned .warm (feedWaits 6 4 6 .settling)).feed.movement = .settling ∧
      (zoned .warm (feedWaits 6 4 6 .settling)).feed.budget < 6 ∧
      (capped 5 (feedWaits 6 4 6 .settling)).feed.movement = .settling ∧ (capped 5 (feedWaits 6 4 6 .settling)).feed.budget < 6) ∧
    ((zoned .trip (feedWaits 6 4 6 .settling)).feed.movement ≠ .settling ∧
      (zoned .trip (feedWaits 6 4 6 .settling)).feed.budget < 6 ∧
      (capped 1 (feedWaits 2 2 2 .steady)).feed.movement ≠ .settling ∧ (capped 1 (feedWaits 2 2 2 .steady)).feed.budget < 2) :=
  ⟨⟨.inr ⟨_, _, _, feedWaits_waits 2 4 4 .settling⟩, Nat.succ_pos _⟩, by decide, by decide, by decide⟩

/-- R88, R149: granted at class 4 the run is READY with V = 4; clamped at class 3 it is DEGRADED by FEED_CLAMPED with V = 3. -/
theorem test_feed_step_ends :
    let ended := fun s => (after (exec .settleTimerExpiry s) State.reset).pcr 1
    ((ended (feedWaits 4 4 4 .settling)).state = .ready ∧ (ended (feedWaits 4 4 4 .settling)).v = 4) ∧
    ((ended (feedWaits 4 4 3 .settling)).state = .degraded ∧ (ended (feedWaits 4 4 3 .settling)).v = 3 ∧
      (ended (feedWaits 4 4 3 .settling)).cause = some .feedClamped) ∧
    (ended (feedWaits 6 4 6 .settling)).phase = .feed := by decide

/-- Section 7.5: with L_b = 2, L_f = 4 and the target 6, L_b becomes 4 and L_f 6; with the target 3 both become 3. -/
theorem test_settle_expiry :
    (after (exec .settleTimerExpiry (moving 6)) State.reset).feed.budget = 4 ∧
    (after (exec .settleTimerExpiry (moving 6)) State.reset).feed.limit = 6 ∧
    (after (exec .settleTimerExpiry (moving 3)) State.reset).feed.limit = 3 := by decide

/-- A circuit on at time 0, with a count of LOW verdicts and the roll sum of section 8.6, at the check of 250 ms. -/
def glowing (lamp : LampState) (low inn : Nat) : State :=
  let s := withCircuit 1 { lit with lamp := lamp, low := low, inn := inn } (chained 2)
  { s with lamps := { s.lamps with roll := [⟨1, 1, 1750⟩, ⟨2, 1, 420⟩] } }

theorem witness_LampCheckJudgesEachCircuit :
    (glowing .ok 2 0).lamps.circuits.length = 10 ∧
    (((glowing .ok 2 0).circuit 1).output = true ∧ ((glowing .ok 2 0).circuit 1).holder = none ∧
      ((glowing .ok 2 0).circuit 1).lamp ≠ .shorted ∧
      50000 ≤ max (glowing .ok 2 0).now (glowing .ok 2 0).lamps.checkTimer - ((glowing .ok 2 0).circuit 1).onSince) ∧
    (1843 < 2170 - 326 ∧ 2170 + 326 < 2497 ∧ 2170 - 326 ≤ 1844 ∧ 2496 ≤ 2170 + 326) ∧
    ((glowing .outage 0 2).circuit 1).lamp = .outage ∧ ((glowing .ok 2 0).circuit 10).output = false := by decide

/-- Section 8.6: the third LOW of 1310 against 2170 is an OUTAGE of 860; the third IN ends it. -/
theorem test_lamp_outage :
    ((after (exec (.lampCheckTimerExpiry [1310]) (glowing .ok 2 0)) State.reset).circuit 1).lamp = .outage ∧
    ((after (exec (.lampCheckTimerExpiry [1310]) (glowing .ok 2 0)) State.reset).circuit 1).deviation = 860 ∧
    ((after (exec (.lampCheckTimerExpiry [2180]) (glowing .outage 0 2)) State.reset).circuit 1).lamp = .ok := by decide

theorem witness_TripShortsTheCircuit :
    ((withCircuit 10 lit (chained 2)).circuit 10).output = true ∧ (withCircuit 10 lit (chained 2)).lamps.circuits.length = 10 ∧
    ((withCircuit 10 lit (chained 2)).circuit 10).holder = none ∧
    (probing.circuit 1).output = true ∧ (probing.circuit 1).holder = some ⟨2, 420⟩ ∧ (probing.circuit 1).waiters = [] ∧
    (probing.pcr 2).state = .bringingUp ∧ (probing.pcr 2).phase = .probe ∧ (probing.pcr 2).stepIndex = some 0 ∧
    probing.stepAt 0 = .step (flagsOf false true false) (.lampProbe 1 420) ∧
    (flagsOf false true false).critical = true := by decide

/-- Positions 2, 1 and 3 at the probe of circuit 1: a CRITICAL step, one that ends its run, and one with CHAIN whose run is
to be held. -/
def sharing : State :=
  let probe := fun f => Descriptor.step f (.lampProbe 1 420)
  let s := withCircuit 1 { probing.circuit 1 with waiters := [⟨1, 420⟩, ⟨3, 420⟩] } probing
  loaded [probe (flagsOf false true false), probe (flagsOf false false false), probe (flagsOf true false false)]
    (atPos 1 (running 1 .probe) (atPos 3 { running 2 .probe with holdPending := true } s))

theorem witness_TripShortsTheCircuit_waiting :
    (sharing.circuit 1).probes = [⟨2, 420⟩, ⟨1, 420⟩, ⟨3, 420⟩] ∧
    (sharing.circuit 1).output = true ∧ sharing.lamps.circuits.length = 10 ∧
    ((sharing.pcr 2).state = .bringingUp ∧ (sharing.pcr 2).phase = .probe ∧ (sharing.pcr 2).stepIndex = some 0 ∧
      sharing.stepAt 0 = .step (flagsOf false true false) (.lampProbe 1 420)) ∧
    ((sharing.pcr 1).state = .bringingUp ∧ (sharing.pcr 1).phase = .probe ∧ (sharing.pcr 1).stepIndex = some 1 ∧
      sharing.stepAt 1 = .step (flagsOf false false false) (.lampProbe 1 420)) ∧
    ((sharing.pcr 3).state = .bringingUp ∧ (sharing.pcr 3).phase = .probe ∧ (sharing.pcr 3).stepIndex = some 2 ∧
      sharing.stepAt 2 = .step (flagsOf true false false) (.lampProbe 1 420) ∧
      2 + 1 ≠ (sharing.runProfile 3).firstStep + (sharing.runProfile 3).stepCount ∧ (sharing.pcr 3).holdPending = true) := by
  decide

/-- Three positions share the probe, and all four; a holder that waits for its own probe is what the premise rules out. -/
theorem witness_TripShortsTheCircuit_probes :
    (sharing.circuit 1).probesGood ∧ sharing.probesGood ∧
    ({ sharing.circuit 1 with waiters := [⟨1, 420⟩, ⟨3, 420⟩, ⟨4, 420⟩] } : Circuit).probesGood ∧
    ¬ ({ sharing.circuit 1 with waiters := [⟨2, 420⟩] } : Circuit).probesGood := by
  unfold State.probesGood Circuit.probesGood; decide

/-- R152: the holder and both waiters take CIRCUIT_FAULT; they are FAILED, DEGRADED and HELD at the next step. -/
theorem test_trip_takes_the_waiters :
    let t := after (exec (.driverOvercurrentTrip 1) sharing) State.reset
    ((t.pcr 2).state = .failed ∧ (t.pcr 1).state = .degraded ∧ (t.pcr 3).state = .held ∧ (t.pcr 3).stepIndex = some 3) ∧
    ((t.pcr 2).cause = some .circuitFault ∧ (t.pcr 1).cause = some .circuitFault ∧ (t.pcr 3).cause = some .circuitFault) := by
  decide

theorem witness_ProbePulseMeasuresTheShare :
    (probing.circuit 1).pulse = some 100000 ∧ probing.lamps.circuits.length = 10 ∧ probing.lamps.sensed.length = 10 ∧
    (probing.circuit 1).holder = some ⟨2, 420⟩ ∧ (probing.circuit 1).waiters = [] ∧ (flagsOf false true false).chain = false ∧
    (420 - 63 ≤ 2180 - 1750 ∧ 2180 - 1750 ≤ 420 + 63) ∧ ¬(420 - 63 ≤ 1750 - 1750) := by decide

/-- Positions 1 and 3 wait behind the probe of position 2. -/
def queued : State :=
  withCircuit 1 { probing.circuit 1 with waiters := [⟨1, 1750⟩, ⟨3, 9⟩] } probing

theorem witness_ProbePulseMeasuresTheShare_waiting :
    (queued.circuit 1).pulse = some 100000 ∧ (queued.circuit 1).holder = some ⟨2, 420⟩ ∧
    (queued.circuit 1).waiters = ⟨1, 1750⟩ :: [⟨3, 9⟩] ∧ (queued.circuit 1).requested = false ∧
    (queued.pcr 2).stepIndex = some 0 ∧ queued.stepAt 0 = .step (flagsOf false true false) (.lampProbe 1 420) ∧
    queued.lamps.circuits.length = 10 := by decide

/-- R162: the first that waits takes the probe over, and its own pulse runs 100 ms. -/
theorem test_probe_handed_on :
    ((after (exec (.probePulseExpiry 1 2180) queued) State.reset).circuit 1).holder = some ⟨1, 1750⟩ ∧
    ((after (exec (.probePulseExpiry 1 2180) queued) State.reset).circuit 1).pulse = some 200000 := by decide

/-! ### Invariants: a state that has them, and a step from it -/

theorem witness_StoresAndRangesAreKept :
    inUse.storesGood ∧ fallbackGood inUse.profiles ∧ inUse.params.inRange ∧ inUse.budgetGood ∧
    (withCircuit 10 { Circuit.off with lamp := .shorted } inUse).shortsOff ∧ (withCircuit 10 pulsed inUse).probesGood ∧
    (∃ t, step { inUse with pending := [.hold 1 1] } = .next t) := by
  refine ⟨?_, ?_, ?_, ?_, ?_, ?_, _, rfl⟩
  · unfold State.storesGood; decide +kernel
  · unfold fallbackGood; decide
  · unfold Params.inRange; decide
  · unfold State.budgetGood PerPos.forAll; decide
  · unfold State.shortsOff; decide
  · unfold State.probesGood Circuit.probesGood; decide

theorem witness_StoresChangeByTheirOwnRequests :
    (∃ t, exec (.hold 1 1) inUse = .next t) ∧ (∀ a b z, Instr.hold 1 1 ≠ .powerOn a b z) ∧
    (∀ b f, Instr.hold 1 1 ≠ .cabByteReceived b f) ∧ (∀ f r, Instr.hold 1 1 ≠ .cabFrameDropped f r) ∧
    (∀ g f ds, Instr.hold 1 1 ≠ .loadSteps g f ds) :=
  ⟨⟨_, rfl⟩, by simp, by simp, by simp, by simp⟩

theorem witness_QueuesKeepTheirBounds :
    (reported 32).queuesGood ∧ (∃ t, step { State.reset with cab := reported 32, pending := [.hold 1 1] } = .next t) := by
  refine ⟨⟨by decide, by decide, by decide, ?_⟩, _, rfl⟩
  unfold Report.differ
  decide

theorem witness_TablesKeepOrderAndCapacity :
    crowded.tablesGood ∧ (∃ t, step { crowded with pending := [.hold 1 1] } = .next t) := ⟨crowded_tablesGood, _, rfl⟩

theorem witness_FeedFollowsItsInputs :
    fed.dutiesGood ∧ fed.feedGood ∧ (∃ t, step { fed with pending := [.hold 1 1] } = .next t) := by
  refine ⟨?_, ?_, _, rfl⟩
  · unfold State.dutiesGood; decide
  · exact ⟨⟨rfl, rfl, rfl, rfl⟩, by decide⟩

theorem witness_OccupiedPositionsStayContiguous :
    (chained 3).chainGood ∧ (∃ t, step { chained 3 with pending := [.hold 1 1] } = .next t) := by
  refine ⟨⟨⟨by decide, by decide, by decide, trivial⟩, upTo4 ?_ ?_ ?_ ?_⟩, _, rfl⟩ <;> decide

theorem witness_NothingPossibleIsLeftWaiting :
    (chained 3).settled ∧ (∃ t, step { chained 3 with pending := [.hold 1 1] } = .next t) := ⟨chained_settled 3, _, rfl⟩

theorem witness_ResetIsAGoodPowerOn :
    State.reset.now = 0 ∧ State.reset.pending = [] ∧ State.reset.lamps.sensed = [0, 0, 0, 0, 0, 0, 0, 0, 0, 0] ∧
    State.reset.lamps.readings = 0 := by decide

end Sys2Proof.Tests
end

section
/-! SUPPORT. WRITE_CONTEXT (R95, R174): what a request leaves that rewrites one position's record, the answer in each position
state, the answer for each field of a held run. -/

namespace Sys2Proof.Machine

/-! ### The shape of the request -/

/-- A request that finds room is the reply of its answer, taken on the state whose receiver hunts (R164, R178). -/
theorem exec_writeContext (tag pos field : Byte) (value : Half) (s : State) (h : s.hasRoom) :
    exec (.writeContext tag pos field value) s =
      .next ((s.heard.writeContextAnswer pos field value).reply tag 19) :=
  congrArg _ (State.request_room s h tag 19 _)

/-- A request that rewrites one position's record and answers changes the record and the cab port, and nothing else. -/
theorem State.modifyPcr_accept_reply (s : State) (p : Nat) (f : Pcr → Pcr) (d : List Byte) (tag code : Byte) :
    ((s.heard.modifyPcr p f).accept d).reply tag code =
      ({ s with pcrs := s.pcrs.set p (f (s.pcr p)) }).answered ⟨tag, code, .ok, d⟩ := rfl

theorem State.atPosition_ok (s : State) (pos : Byte) (act : Nat → Answer) (h1 : 1 ≤ pos.toNat) (h4 : pos.toNat ≤ 4) :
    s.atPosition pos act = act pos.toNat :=
  if_pos (decide_eq_true ⟨h1, h4⟩)

theorem State.atPosition_bad (s : State) (pos : Byte) (act : Nat → Answer) (h : pos.toNat = 0 ∨ 4 < pos.toNat) :
    s.atPosition pos act = s.refuse .badValue := by
  have hp : ¬ positionOk pos.toNat = true := by
    simp only [positionOk, decide_eq_true_eq]
    omega
  exact if_neg hp

/-! ### Each position state (R95) -/

section
variable (s : State) (pos field : Byte) (value : Half)

theorem State.writeContextAnswer_badPosition (h : pos.toNat = 0 ∨ 4 < pos.toNat) :
    s.writeContextAnswer pos field value = s.refuse .badValue :=
  s.atPosition_bad pos _ h

variable (h1 : 1 ≤ pos.toNat) (h4 : pos.toNat ≤ 4)
include h1 h4

theorem State.writeContextAnswer_held (h : (s.pcr pos.toNat).state = .held) :
    s.writeContextAnswer pos field value = s.writeField pos.toNat field.toNat value := by
  rw [State.writeContextAnswer, s.atPosition_ok pos _ h1 h4, h]

theorem State.writeContextAnswer_empty (h : (s.pcr pos.toNat).state = .empty) :
    s.writeContextAnswer pos field value = s.refuse .notPresent := by
  rw [State.writeContextAnswer, s.atPosition_ok pos _ h1 h4, h]

theorem State.writeContextAnswer_notHeld (he : (s.pcr pos.toNat).state ≠ .empty)
    (hh : (s.pcr pos.toNat).state ≠ .held) :
    s.writeContextAnswer pos field value = s.refuse .wrongState := by
  rw [State.writeContextAnswer, s.atPosition_ok pos _ h1 h4]
  cases hs : (s.pcr pos.toNat).state with
  | empty => exact absurd hs he
  | held => exact absurd hs hh
  | identifying | waiting | unprofiled | bringingUp | ready | degraded | failed => rfl

end

/-! ### Each field of a held run (R95) -/

theorem Profile.inRange_iff (pr : Profile) (i : Nat) :
    pr.inRange i = true ↔ pr.firstStep ≤ i ∧ i < pr.firstStep + pr.stepCount := by
  simp only [Profile.inRange, decide_eq_true_eq]
  omega

section
variable (s : State) (p : Nat) (value : Half)

theorem State.writeField_stepIndex
    (h : (s.runProfile p).firstStep ≤ value.toNat ∧
      value.toNat < (s.runProfile p).firstStep + (s.runProfile p).stepCount) :
    s.writeField p 1 value =
      (s.modifyPcr p (fun x => { x with stepIndex := some value.toNat })).accept (twoBytes value.toNat) :=
  if_pos ((Profile.inRange_iff _ _).mpr h)

theorem State.writeField_stepIndex_outside
    (h : value.toNat < (s.runProfile p).firstStep ∨
      (s.runProfile p).firstStep + (s.runProfile p).stepCount ≤ value.toNat) :
    s.writeField p 1 value = s.refuse .badValue := by
  have hr : ¬ (s.runProfile p).inRange value.toNat = true := by
    rw [Profile.inRange_iff]
    omega
  exact if_neg hr

theorem State.writeField_v :
    s.writeField p 2 value = (s.modifyPcr p (fun x => { x with v := value.toNat })).accept (twoBytes value.toNat) := rfl

theorem State.writeField_x :
    s.writeField p 3 value =
      (s.modifyPcr p (fun y => { y with x := max (-128) (min 127 value.toInt) })).accept
        (signedTwoBytes (max (-128) (min 127 value.toInt))) := rfl

theorem State.writeField_other (field : Nat) (h : field = 0 ∨ 3 < field) :
    s.writeField p field value = s.refuse .badValue := by
  unfold State.writeField
  split
  case h_4 => rfl
  all_goals omega

end

/-! ### The statement -/

/-- Settles O30: the checks on the position, its state and the field in their order, each clause the equation of its answer
followed by what the reply leaves. -/
theorem contextWriteInHeld : Obligations.ContextWriteInHeld := by
  intro tag pos field value s hroom
  simp only [exec_writeContext tag pos field value s hroom]
  refine ⟨fun hbad => ?_, fun h1 h4 => ⟨fun he => ?_, fun he hh => ?_, fun hheld => ?_⟩⟩
  · rw [State.writeContextAnswer_badPosition _ _ _ _ hbad, State.refuse_reply]
  · rw [s.heard.writeContextAnswer_empty pos field value h1 h4 he, State.refuse_reply]
  · rw [s.heard.writeContextAnswer_notHeld pos field value h1 h4 he hh, State.refuse_reply]
  · rw [s.heard.writeContextAnswer_held pos field value h1 h4 hheld]
    refine ⟨?stepIndex, ?outside, ?v, ?x, ?other⟩
    case stepIndex =>
      intro hf hlo hhi
      have hn : field.toNat = 1 := congrArg BitVec.toNat hf
      rw [hn, s.heard.writeField_stepIndex pos.toNat value ⟨hlo, hhi⟩, State.modifyPcr_accept_reply]
    case outside =>
      intro hf hout
      have hn : field.toNat = 1 := congrArg BitVec.toNat hf
      rw [hn, s.heard.writeField_stepIndex_outside pos.toNat value hout, State.refuse_reply]
    case v =>
      intro hf
      have hn : field.toNat = 2 := congrArg BitVec.toNat hf
      rw [hn, State.writeField_v, State.modifyPcr_accept_reply]
    case x =>
      intro hf
      have hn : field.toNat = 3 := congrArg BitVec.toNat hf
      rw [hn, State.writeField_x, State.modifyPcr_accept_reply]
    case other =>
      intro hf
      have hn : field.toNat = 0 ∨ 3 < field.toNat := hf.imp_left (congrArg BitVec.toNat)
      rw [s.heard.writeField_other pos.toNat value field.toNat hn, State.refuse_reply]

end Sys2Proof.Machine
end

section
/-! SUPPORT. The cab frame (R177, R178): the sum of its bytes, its two check bytes, and what the receiver judges a whole frame
and an overlong one to be. -/

namespace Sys2Proof.Machine

/-! ### The check -/

@[simp] theorem byteOf_toNat (n : Nat) : (byteOf n).toNat = n % 256 := BitVec.toNat_ofNat n 8

theorem byteSum_eq_sum (bs : List Byte) : byteSum bs = (bs.map (·.toNat)).sum := List.sum_eq_foldl.symm

/-- The bytes that the check of a frame covers. -/
def frameBody (kind : Nat) (payload : List Byte) : List Byte :=
  byteOf Config.sync :: byteOf kind :: byteOf payload.length :: payload

theorem frameBytes_eq (kind : Nat) (payload : List Byte) :
    frameBytes kind payload = frameBody kind payload ++
      [byteOf (byteSum (frameBody kind payload) / 256), byteOf (byteSum (frameBody kind payload))] := rfl

/-- No header byte of a frame is cut off, so the numbers themselves are summed. -/
theorem byteSum_frameBody (kind : Nat) (payload : List Byte) (hkind : kind < 256) (hlen : payload.length ≤ 30) :
    byteSum (frameBody kind payload) = 195 + kind + payload.length + (payload.map (·.toNat)).sum := by
  have hlen' : payload.length < 256 := by omega
  simp only [byteSum_eq_sum, frameBody, List.map_cons, List.sum_cons, byteOf_toNat, Config.sync,
    Nat.mod_eq_of_lt hkind, Nat.mod_eq_of_lt hlen']
  omega

/-- The two check bytes, high byte first, hold a number modulo 65536. -/
theorem checkBytes_value (n : Nat) : (byteOf (n / 256)).toNat * 256 + (byteOf n).toNat = n % 65536 := by
  simp only [byteOf_toNat]
  omega

/-! ### The receiver's judgement -/

/-- A length byte above the greatest payload length makes no frame, whatever follows it. -/
theorem judgeFrame_overlong (sync kind len : Byte) (more : List Byte) (h : 30 < len.toNat) :
    judgeFrame (sync :: kind :: len :: more) = .searchAgain :=
  if_pos h

/-- As many payload bytes as the length byte says, then the check of all that precedes: the frame is found, and the bytes behind
it are left. -/
theorem judgeFrame_whole (sync kind len hi lo : Byte) (payload rest : List Byte)
    (hlen : payload.length = len.toNat) (hmax : len.toNat ≤ 30)
    (hcheck : byteSum (sync :: kind :: len :: payload) % 65536 = hi.toNat * 256 + lo.toNat) :
    judgeFrame (sync :: kind :: len :: (payload ++ hi :: lo :: rest)) = .frame kind.toNat payload rest := by
  have hfits : ¬ Config.maxPayload < len.toNat := Nat.not_lt.mpr hmax
  have htake : (payload ++ hi :: lo :: rest).take len.toNat = payload := List.take_left' hlen
  have hdrop : (payload ++ hi :: lo :: rest).drop len.toNat = hi :: lo :: rest := List.drop_left' hlen
  simp only [judgeFrame, if_neg hfits, htake, hdrop, if_pos hcheck]

/-- The receiver finds a sent frame again and leaves the bytes behind it. -/
theorem judgeFrame_frameBytes (kind : Nat) (payload rest : List Byte) (hkind : kind < 256) (hlen : payload.length ≤ 30) :
    judgeFrame (frameBytes kind payload ++ rest) = .frame kind payload rest := by
  have hbyte : (byteOf payload.length).toNat = payload.length := by
    rw [byteOf_toNat]
    omega
  have hfound := judgeFrame_whole _ (byteOf kind) _ _ _ payload rest hbyte.symm (Nat.le_trans (Nat.le_of_eq hbyte) hlen)
    (checkBytes_value (byteSum (frameBody kind payload))).symm
  rw [byteOf_toNat, Nat.mod_eq_of_lt hkind] at hfound
  rw [frameBytes_eq, List.append_assoc]
  exact hfound

/-! ### The statement -/

/-- Settles O11: the form and its check, the receiver's two judgements, and the kinds by which frames are sent and taken. -/
theorem framesCarryKindLengthAndSum : Obligations.FramesCarryKindLengthAndSum := by
  refine ⟨fun kind payload hkind hlen => ⟨⟨_, _, frameBytes_eq kind payload, ?check⟩, ?found⟩,
    fun kind len more hlong => judgeFrame_overlong 195 kind len more hlong,
    fun _ => rfl, fun _ => rfl, fun _ => rfl, fun _ _ => rfl, fun _ _ _ => rfl⟩
  case check => rw [checkBytes_value, byteSum_frameBody kind payload hkind hlen]
  case found => simpa using judgeFrame_frameBytes kind payload [] hkind hlen

end Sys2Proof.Machine
end
